-- ==== Sys2Proof/Word.lean ====
section
/-! DEFINITION. The words of the HCE: the 32-bit register word and the 8-bit stream byte (`00_scope.md` R8). -/

namespace Sys2Proof

/-- A register word: BUS_BITS = 32 (`00_scope.md` R8). -/
abbrev Word := BitVec 32

/-- A symbol or a stream byte: SYM_BITS = 8 (`00_scope.md` R8). -/
abbrev Byte := BitVec 8

/-- A byte offset inside the register window: OFFSET_BITS = 12 (`00_scope.md` R8). -/
abbrev Offset := BitVec 12

end Sys2Proof
end

