-- ==== Sys2Proof/Config.lean ====
section
/-! DEFINITION. The parameters of `00_scope.md` R8, the table entries they size, and the free values of the spec. -/

namespace Sys2Proof

/-- Entries of the frequency and code tables: NSYM_MAX (`00_scope.md` R8). -/
abbrev nsymMax : Nat := 256

/-- Entries of the node arena: NODE_MAX (`00_scope.md` R8). -/
abbrev nodeMax : Nat := 511

/-- An arena index, 0..510 (IDX_BITS = 9, `00_scope.md` R8, `10_state.md` R48). -/
abbrev NodeIx := Fin nodeMax

/-- One entry of the node arena (`10_state.md` R48). -/
structure Node where
  leaf  : Bool
  sym   : Byte
  w     : BitVec 40
  left  : NodeIx
  right : NodeIx
  deriving DecidableEq, Repr, Inhabited

/-- One entry of the code table: CL and CODE (`10_state.md` R47). -/
structure CodeEntry where
  len  : Byte
  code : BitVec 256
  deriving DecidableEq, Repr, Inhabited

/-- The parameters the spec gives the implementation (`00_scope.md` R8): both FIFO depths, and the base of the window. -/
structure Params where
  ififoDepth : Nat
  ofifoDepth : Nat
  hceBase    : Nat
  deriving DecidableEq, Repr

/-- HCE_BASE, OPEN in `00_scope.md` R8: no value is chosen, nothing in Lean can evaluate it (log 7). -/
opaque Config.hceBase : Nat

/-- The default depths of R8, at the open HCE_BASE. A machine with other parameters is `Machine.coreWith` of them (log 7). -/
def Params.default : Params := { ififoDepth := 32, ofifoDepth := 32, hceBase := Config.hceBase }

/-- FREE VALUE: the word a busy read returns, one per draw (`10_state.md` R60, log 4). -/
opaque Config.freeWord : Nat → BitVec 32

/-- FREE VALUE: what draw `n` leaves in FT[s] (`70_reset_and_hazards.md` R341, R344, log 5). -/
opaque Config.freeFt : Nat → Nat → BitVec 32

/-- FREE VALUE: what draw `n` leaves in an arena entry (`70_reset_and_hazards.md` R340, log 6). -/
opaque Config.freeNode : Nat → Nat → Node

/-- FREE VALUE: what draw `n` leaves in a code-table entry (`70_reset_and_hazards.md` R340, log 6). -/
opaque Config.freeCode : Nat → Nat → CodeEntry

end Sys2Proof
end

