-- ==== Sys2Proof/Syntax.lean ====
section
/-! DEFINITION. The instructions of the HCE (`00_scope.md` R2): one constructor per row of `opcode_table.json`. The ten
command words come first (`30_encoding.md` R113, R114), then the bus operations (`30_encoding.md` R115). A bus write
carries its 32-bit data, an FT access its symbol, a reserved access its word offset. -/

namespace Sys2Proof

/-- One row of the opcode table each; the rule that gives the meaning stands beside the constructor. -/
inductive Instr where
  | nop -- NOP, R195
  | ftClear -- FT_CLEAR, R196
  | build -- BUILD, R214
  | gen -- GEN, R232
  | hdrWrite -- HDR_WRITE, R251
  | hdrParse -- HDR_PARSE, R281
  | encode -- ENCODE, R260
  | decode -- DECODE, R284
  | flush -- FLUSH, R197
  | illegalCmd (word : Word) -- any other command word, R114
  | rdId -- R151
  | wrId (data : Word) -- R167
  | rdVersion -- R151
  | wrVersion (data : Word) -- R167
  | rdCtrl -- R152
  | wrCtrl (data : Word) -- R153
  | rdStatus -- R154
  | wrStatus (data : Word) -- R167
  | rdErrcode -- R155
  | wrErrcode (data : Word) -- R167
  | rdErrinfo -- R155
  | wrErrinfo (data : Word) -- R167
  | rdCmd -- R156
  | wrCmd (data : Word) -- R190
  | rdAck -- R156
  | wrAck (data : Word) -- R157
  | rdInData -- R156
  | wrInData (data : Word) -- R158
  | rdOutData -- R159
  | wrOutData (data : Word) -- R167
  | rdInRemain -- R160
  | wrInRemain (data : Word) -- R160
  | rdInLevel -- R161
  | wrInLevel (data : Word) -- R167
  | rdOutLevel -- R161
  | wrOutLevel (data : Word) -- R167
  | rdNsym -- R162
  | wrNsym (data : Word) -- R167
  | rdRoot -- R162
  | wrRoot (data : Word) -- R167
  | rdSymcntLo -- R162
  | wrSymcntLo (data : Word) -- R167
  | rdSymcntHi -- R162
  | wrSymcntHi (data : Word) -- R167
  | rdTbitsLo -- R162
  | wrTbitsLo (data : Word) -- R167
  | rdTbitsHi -- R162
  | wrTbitsHi (data : Word) -- R167
  | rdMaxlen -- R162
  | wrMaxlen (data : Word) -- R167
  | rdPad -- R162
  | wrPad (data : Word) -- R167
  | rdDcountLo -- R162
  | wrDcountLo (data : Word) -- R167
  | rdDcountHi -- R162
  | wrDcountHi (data : Word) -- R167
  | rdCtSel -- R165
  | wrCtSel (data : Word) -- R165
  | rdCtLen -- R165
  | wrCtLen (data : Word) -- R167
  | rdCtCode0 -- R165
  | wrCtCode0 (data : Word) -- R167
  | rdCtCode1 -- R165
  | wrCtCode1 (data : Word) -- R167
  | rdCtCode2 -- R165
  | wrCtCode2 (data : Word) -- R167
  | rdCtCode3 -- R165
  | wrCtCode3 (data : Word) -- R167
  | rdCtCode4 -- R165
  | wrCtCode4 (data : Word) -- R167
  | rdCtCode5 -- R165
  | wrCtCode5 (data : Word) -- R167
  | rdCtCode6 -- R165
  | wrCtCode6 (data : Word) -- R167
  | rdCtCode7 -- R165
  | wrCtCode7 (data : Word) -- R167
  | rdNdSel -- R166
  | wrNdSel (data : Word) -- R166
  | rdNdInfo -- R166
  | wrNdInfo (data : Word) -- R167
  | rdNdChild -- R166
  | wrNdChild (data : Word) -- R167
  | rdNdWLo -- R166
  | wrNdWLo (data : Word) -- R167
  | rdNdWHi -- R166
  | wrNdWHi (data : Word) -- R167
  | rdFt (sym : Byte) -- R164
  | wrFt (sym : Byte) (data : Word) -- R163
  | rdReservedHigh (off : Offset) -- 0x800 to 0xFFC, R167
  | rdReservedLow (off : Offset) -- 0x098 to 0x3FC, R167
  | wrReservedHigh (off : Offset) (data : Word) -- 0x800 to 0xFFC, R167
  | wrReservedLow (off : Offset) (data : Word) -- 0x098 to 0x3FC, R167
  deriving DecidableEq, Repr

end Sys2Proof
end

