-- ==== Sys2Proof/WellFormed.lean ====
section
/-! DEFINITION. Which terms of `Instr` stand for an encoding: an illegal command word is illegal (`30_encoding.md` R114),
a reserved access names a word offset of its reserved range (`10_state.md` R49). -/

namespace Sys2Proof

/-- `30_encoding.md` R114: OPCODE 0x09 to 0xFF, or RSVD bits not all zero. -/
def illegalWord (w : Word) : Bool :=
  w.extractLsb' 8 24 != 0#24 || decide (8 < (w.extractLsb' 0 8).toNat)

/-- A reserved word offset of 0x098 to 0x3FC (`10_state.md` R49). -/
def reservedLow (off : Offset) : Bool :=
  decide (0x098 ≤ off.toNat) && decide (off.toNat ≤ 0x3FC) && decide (off.toNat % 4 = 0)

/-- A reserved word offset of 0x800 to 0xFFC (`10_state.md` R49). -/
def reservedHigh (off : Offset) : Bool :=
  decide (0x800 ≤ off.toNat) && decide (off.toNat % 4 = 0)

/-- The well-formed instructions: those the decoder can give. -/
def Instr.wellFormed (i : Instr) : Bool :=
  match i with
  | .illegalCmd w => illegalWord w
  | .rdReservedLow off => reservedLow off
  | .wrReservedLow off _ => reservedLow off
  | .rdReservedHigh off => reservedHigh off
  | .wrReservedHigh off _ => reservedHigh off
  | .nop => true
  | .ftClear => true
  | .build => true
  | .gen => true
  | .hdrWrite => true
  | .hdrParse => true
  | .encode => true
  | .decode => true
  | .flush => true
  | .rdId => true
  | .wrId _ => true
  | .rdVersion => true
  | .wrVersion _ => true
  | .rdCtrl => true
  | .wrCtrl _ => true
  | .rdStatus => true
  | .wrStatus _ => true
  | .rdErrcode => true
  | .wrErrcode _ => true
  | .rdErrinfo => true
  | .wrErrinfo _ => true
  | .rdCmd => true
  | .wrCmd _ => true
  | .rdAck => true
  | .wrAck _ => true
  | .rdInData => true
  | .wrInData _ => true
  | .rdOutData => true
  | .wrOutData _ => true
  | .rdInRemain => true
  | .wrInRemain _ => true
  | .rdInLevel => true
  | .wrInLevel _ => true
  | .rdOutLevel => true
  | .wrOutLevel _ => true
  | .rdNsym => true
  | .wrNsym _ => true
  | .rdRoot => true
  | .wrRoot _ => true
  | .rdSymcntLo => true
  | .wrSymcntLo _ => true
  | .rdSymcntHi => true
  | .wrSymcntHi _ => true
  | .rdTbitsLo => true
  | .wrTbitsLo _ => true
  | .rdTbitsHi => true
  | .wrTbitsHi _ => true
  | .rdMaxlen => true
  | .wrMaxlen _ => true
  | .rdPad => true
  | .wrPad _ => true
  | .rdDcountLo => true
  | .wrDcountLo _ => true
  | .rdDcountHi => true
  | .wrDcountHi _ => true
  | .rdCtSel => true
  | .wrCtSel _ => true
  | .rdCtLen => true
  | .wrCtLen _ => true
  | .rdCtCode0 => true
  | .wrCtCode0 _ => true
  | .rdCtCode1 => true
  | .wrCtCode1 _ => true
  | .rdCtCode2 => true
  | .wrCtCode2 _ => true
  | .rdCtCode3 => true
  | .wrCtCode3 _ => true
  | .rdCtCode4 => true
  | .wrCtCode4 _ => true
  | .rdCtCode5 => true
  | .wrCtCode5 _ => true
  | .rdCtCode6 => true
  | .wrCtCode6 _ => true
  | .rdCtCode7 => true
  | .wrCtCode7 _ => true
  | .rdNdSel => true
  | .wrNdSel _ => true
  | .rdNdInfo => true
  | .wrNdInfo _ => true
  | .rdNdChild => true
  | .wrNdChild _ => true
  | .rdNdWLo => true
  | .wrNdWLo _ => true
  | .rdNdWHi => true
  | .wrNdWHi _ => true
  | .rdFt _ => true
  | .wrFt _ _ => true

/-- The commands of the engine, `30_encoding.md` R113 and R114; every other instruction is a bus operation of the host. -/
def Instr.isCommand (i : Instr) : Bool :=
  match i with
  | .nop | .ftClear | .build | .gen | .hdrWrite | .hdrParse | .encode | .decode | .flush | .illegalCmd _ => true
  | .rdId | .wrId _ => false
  | .rdVersion | .wrVersion _ => false
  | .rdCtrl | .wrCtrl _ => false
  | .rdStatus | .wrStatus _ => false
  | .rdErrcode | .wrErrcode _ => false
  | .rdErrinfo | .wrErrinfo _ => false
  | .rdCmd | .wrCmd _ => false
  | .rdAck | .wrAck _ => false
  | .rdInData | .wrInData _ => false
  | .rdOutData | .wrOutData _ => false
  | .rdInRemain | .wrInRemain _ => false
  | .rdInLevel | .wrInLevel _ => false
  | .rdOutLevel | .wrOutLevel _ => false
  | .rdNsym | .wrNsym _ => false
  | .rdRoot | .wrRoot _ => false
  | .rdSymcntLo | .wrSymcntLo _ => false
  | .rdSymcntHi | .wrSymcntHi _ => false
  | .rdTbitsLo | .wrTbitsLo _ => false
  | .rdTbitsHi | .wrTbitsHi _ => false
  | .rdMaxlen | .wrMaxlen _ => false
  | .rdPad | .wrPad _ => false
  | .rdDcountLo | .wrDcountLo _ => false
  | .rdDcountHi | .wrDcountHi _ => false
  | .rdCtSel | .wrCtSel _ => false
  | .rdCtLen | .wrCtLen _ => false
  | .rdCtCode0 | .wrCtCode0 _ => false
  | .rdCtCode1 | .wrCtCode1 _ => false
  | .rdCtCode2 | .wrCtCode2 _ => false
  | .rdCtCode3 | .wrCtCode3 _ => false
  | .rdCtCode4 | .wrCtCode4 _ => false
  | .rdCtCode5 | .wrCtCode5 _ => false
  | .rdCtCode6 | .wrCtCode6 _ => false
  | .rdCtCode7 | .wrCtCode7 _ => false
  | .rdNdSel | .wrNdSel _ => false
  | .rdNdInfo | .wrNdInfo _ => false
  | .rdNdChild | .wrNdChild _ => false
  | .rdNdWLo | .wrNdWLo _ => false
  | .rdNdWHi | .wrNdWHi _ => false
  | .rdFt _ | .wrFt _ _ => false
  | .rdReservedHigh _ | .rdReservedLow _ | .wrReservedHigh _ _ | .wrReservedLow _ _ => false

end Sys2Proof
end

