-- ==== Sys2Proof/Decode.lean ====
section
/-! DEFINITION. Decoding and encoding. Command words are CMD32 (`30_encoding.md` R110 to R114). A bus operation is the triple
(direction, offset, data) of R115. Both decoders are total (R112, `40_host_access.md` R150). The byte record of a bus
operation, in which the direction and the data get bits of their own, is the model's (log 12). -/

namespace Sys2Proof

/-- A bus operation as the target port sees it: `30_encoding.md` R115, `20_memory.md` R85. -/
structure BusWord where
  write  : Bool
  off    : Offset
  strobe : BitVec 4
  data   : Word
  deriving DecidableEq, Repr

/-- What an instruction is encoded as: a command word, or a bus operation. -/
inductive Code where
  | cmd (word : Word)
  | bus (op : BusWord)
  deriving DecidableEq, Repr

/-- Why a byte record is no instruction: the model's own names (log 12). -/
inductive DecodeReject where
  /-- The record is neither 4 bytes (a command word) nor 7 bytes (a bus operation). -/
  | badLength
  /-- The direction byte of a bus record is neither 0 (read) nor 1 (write). -/
  | badDirection
  deriving DecidableEq, Repr

/-- The outcome of decoding a byte record. -/
inductive Decoded where
  | instr (i : Instr)
  | reject (r : DecodeReject)
  deriving DecidableEq, Repr

/-- `30_encoding.md` R112, R113: a word selects a command exactly when it equals the opcode; every other word is illegal. -/
def decodeCmd (w : Word) : Instr :=
  match w.toNat with
  | 0 => .nop
  | 1 => .ftClear
  | 2 => .build
  | 3 => .gen
  | 4 => .hdrWrite
  | 5 => .hdrParse
  | 6 => .encode
  | 7 => .decode
  | 8 => .flush
  | _ => .illegalCmd w

/-- `20_memory.md` R85: the access reaches the register at `a & 0xFFC`. -/
def wordOffset (off : Offset) : Offset := off &&& 0xFFC#12

/-- The symbol of an FT-window offset: offset bits 9:2 (`40_host_access.md` R163). -/
def ftSymbol (off : Offset) : Byte := off.extractLsb' 2 8

/-- A bus read (`10_state.md` R20, `40_host_access.md` R150), by the word number, offset bits 11:2. -/
def decodeRead (off : Offset) : Instr :=
  match off.toNat / 4 with
  | 0 => .rdId
  | 1 => .rdVersion
  | 2 => .rdCtrl
  | 3 => .rdStatus
  | 4 => .rdErrcode
  | 5 => .rdErrinfo
  | 6 => .rdCmd
  | 7 => .rdAck
  | 8 => .rdInData
  | 9 => .rdOutData
  | 10 => .rdInRemain
  | 11 => .rdInLevel
  | 12 => .rdOutLevel
  | 13 => .rdNsym
  | 14 => .rdRoot
  | 15 => .rdSymcntLo
  | 16 => .rdSymcntHi
  | 17 => .rdTbitsLo
  | 18 => .rdTbitsHi
  | 19 => .rdMaxlen
  | 20 => .rdPad
  | 21 => .rdDcountLo
  | 22 => .rdDcountHi
  | 23 => .rdCtSel
  | 24 => .rdCtLen
  | 25 => .rdCtCode0
  | 26 => .rdCtCode1
  | 27 => .rdCtCode2
  | 28 => .rdCtCode3
  | 29 => .rdCtCode4
  | 30 => .rdCtCode5
  | 31 => .rdCtCode6
  | 32 => .rdCtCode7
  | 33 => .rdNdSel
  | 34 => .rdNdInfo
  | 35 => .rdNdChild
  | 36 => .rdNdWLo
  | 37 => .rdNdWHi
  | k =>
    if k < 0x100 then .rdReservedLow (wordOffset off)
    else if k < 0x200 then .rdFt (ftSymbol off)
    else .rdReservedHigh (wordOffset off)

/-- A bus write (`10_state.md` R20, `40_host_access.md` R150), by the word number, offset bits 11:2. -/
def decodeWrite (off : Offset) (data : Word) : Instr :=
  match off.toNat / 4 with
  | 0 => .wrId data
  | 1 => .wrVersion data
  | 2 => .wrCtrl data
  | 3 => .wrStatus data
  | 4 => .wrErrcode data
  | 5 => .wrErrinfo data
  | 6 => .wrCmd data
  | 7 => .wrAck data
  | 8 => .wrInData data
  | 9 => .wrOutData data
  | 10 => .wrInRemain data
  | 11 => .wrInLevel data
  | 12 => .wrOutLevel data
  | 13 => .wrNsym data
  | 14 => .wrRoot data
  | 15 => .wrSymcntLo data
  | 16 => .wrSymcntHi data
  | 17 => .wrTbitsLo data
  | 18 => .wrTbitsHi data
  | 19 => .wrMaxlen data
  | 20 => .wrPad data
  | 21 => .wrDcountLo data
  | 22 => .wrDcountHi data
  | 23 => .wrCtSel data
  | 24 => .wrCtLen data
  | 25 => .wrCtCode0 data
  | 26 => .wrCtCode1 data
  | 27 => .wrCtCode2 data
  | 28 => .wrCtCode3 data
  | 29 => .wrCtCode4 data
  | 30 => .wrCtCode5 data
  | 31 => .wrCtCode6 data
  | 32 => .wrCtCode7 data
  | 33 => .wrNdSel data
  | 34 => .wrNdInfo data
  | 35 => .wrNdChild data
  | 36 => .wrNdWLo data
  | 37 => .wrNdWHi data
  | k =>
    if k < 0x100 then .wrReservedLow (wordOffset off) data
    else if k < 0x200 then .wrFt (ftSymbol off) data
    else .wrReservedHigh (wordOffset off) data

/-- `20_memory.md` R85: the strobes are ignored, a read carries no data. -/
def decodeBus (b : BusWord) : Instr :=
  if b.write then decodeWrite b.off b.data else decodeRead b.off

/-- Decoding of a code. -/
def decodeCode (c : Code) : Instr :=
  match c with
  | .cmd w => decodeCmd w
  | .bus b => decodeBus b

/-- The number a byte list spells, least significant byte first. -/
def leNat (bs : List Byte) : Nat :=
  match bs with
  | [] => 0
  | b :: rest => b.toNat + 256 * leNat rest

/-- The `n` low bytes of a number, least significant byte first. -/
def leBytes (n v : Nat) : List Byte :=
  match n with
  | 0 => []
  | k + 1 => BitVec.ofNat 8 v :: leBytes k (v / 256)

/-- A bus record as a number of 56 bits (log 12): offset in bits 11:0, strobes in 15:12, data in 47:16, direction in 55:48. -/
def busOfNat (v : Nat) : BusWord :=
  { write := v / 2 ^ 48 % 2 == 1, off := BitVec.ofNat 12 v, strobe := BitVec.ofNat 4 (v / 2 ^ 12),
    data := BitVec.ofNat 32 (v / 2 ^ 16) }

/-- The number of a bus record, the inverse of `busOfNat`. -/
def natOfBus (b : BusWord) : Nat :=
  b.off.toNat + 2 ^ 12 * b.strobe.toNat + 2 ^ 16 * b.data.toNat + 2 ^ 48 * b.write.toNat

/-- The code a byte record spells, or why it spells none. -/
def readCode (bs : List Byte) : Except DecodeReject Code :=
  if bs.length = 4 then .ok (.cmd (BitVec.ofNat 32 (leNat bs)))
  else if bs.length = 7 then
    if leNat bs / 2 ^ 48 ≤ 1 then .ok (.bus (busOfNat (leNat bs))) else .error .badDirection
  else .error .badLength

/-- Decoding of a byte record: total, rejecting by name. -/
def decodeBytes (bs : List Byte) : Decoded :=
  match readCode bs with
  | .ok c => .instr (decodeCode c)
  | .error r => .reject r

/-- The byte record of the table word of `nbits` bits: 32 bits are a command word, any other width the low bits of a bus
record, whose other bits are 0, so that a table row of 12 or 16 bits is a read (log 12). -/
def tableBytes (nbits w : Nat) : List Byte :=
  if nbits = 32 then leBytes 4 w else leBytes 7 (w % 2 ^ nbits)

/-- The instruction the decoder reads from a row of `opcode_table.json`, bits numbered as there. -/
def decodeTableWord (nbits w : Nat) : Option Instr :=
  match decodeBytes (tableBytes nbits w) with
  | .instr i => some i
  | .reject _ => none

/-- A bus read of an offset, all strobes set. -/
def busRead (off : Offset) : Code := .bus { write := false, off := off, strobe := 0xF#4, data := 0#32 }

/-- A bus write to an offset, all strobes set. -/
def busWrite (off : Offset) (data : Word) : Code := .bus { write := true, off := off, strobe := 0xF#4, data := data }

/-- Offset 0x400 + 4·s of FT[s] (`10_state.md` R20). -/
def ftOffset (sym : Byte) : Offset := 0x400#12 + (sym.setWidth 12 <<< 2)

/-- The encoder: `30_encoding.md` R113 for commands, the offsets of `10_state.md` R20 for bus operations. -/
def encode (i : Instr) : Code :=
  match i with
  | .nop => .cmd 0#32
  | .ftClear => .cmd 1#32
  | .build => .cmd 2#32
  | .gen => .cmd 3#32
  | .hdrWrite => .cmd 4#32
  | .hdrParse => .cmd 5#32
  | .encode => .cmd 6#32
  | .decode => .cmd 7#32
  | .flush => .cmd 8#32
  | .illegalCmd w => .cmd w
  | .rdId => busRead 0x000#12
  | .wrId d => busWrite 0x000#12 d
  | .rdVersion => busRead 0x004#12
  | .wrVersion d => busWrite 0x004#12 d
  | .rdCtrl => busRead 0x008#12
  | .wrCtrl d => busWrite 0x008#12 d
  | .rdStatus => busRead 0x00C#12
  | .wrStatus d => busWrite 0x00C#12 d
  | .rdErrcode => busRead 0x010#12
  | .wrErrcode d => busWrite 0x010#12 d
  | .rdErrinfo => busRead 0x014#12
  | .wrErrinfo d => busWrite 0x014#12 d
  | .rdCmd => busRead 0x018#12
  | .wrCmd d => busWrite 0x018#12 d
  | .rdAck => busRead 0x01C#12
  | .wrAck d => busWrite 0x01C#12 d
  | .rdInData => busRead 0x020#12
  | .wrInData d => busWrite 0x020#12 d
  | .rdOutData => busRead 0x024#12
  | .wrOutData d => busWrite 0x024#12 d
  | .rdInRemain => busRead 0x028#12
  | .wrInRemain d => busWrite 0x028#12 d
  | .rdInLevel => busRead 0x02C#12
  | .wrInLevel d => busWrite 0x02C#12 d
  | .rdOutLevel => busRead 0x030#12
  | .wrOutLevel d => busWrite 0x030#12 d
  | .rdNsym => busRead 0x034#12
  | .wrNsym d => busWrite 0x034#12 d
  | .rdRoot => busRead 0x038#12
  | .wrRoot d => busWrite 0x038#12 d
  | .rdSymcntLo => busRead 0x03C#12
  | .wrSymcntLo d => busWrite 0x03C#12 d
  | .rdSymcntHi => busRead 0x040#12
  | .wrSymcntHi d => busWrite 0x040#12 d
  | .rdTbitsLo => busRead 0x044#12
  | .wrTbitsLo d => busWrite 0x044#12 d
  | .rdTbitsHi => busRead 0x048#12
  | .wrTbitsHi d => busWrite 0x048#12 d
  | .rdMaxlen => busRead 0x04C#12
  | .wrMaxlen d => busWrite 0x04C#12 d
  | .rdPad => busRead 0x050#12
  | .wrPad d => busWrite 0x050#12 d
  | .rdDcountLo => busRead 0x054#12
  | .wrDcountLo d => busWrite 0x054#12 d
  | .rdDcountHi => busRead 0x058#12
  | .wrDcountHi d => busWrite 0x058#12 d
  | .rdCtSel => busRead 0x05C#12
  | .wrCtSel d => busWrite 0x05C#12 d
  | .rdCtLen => busRead 0x060#12
  | .wrCtLen d => busWrite 0x060#12 d
  | .rdCtCode0 => busRead 0x064#12
  | .wrCtCode0 d => busWrite 0x064#12 d
  | .rdCtCode1 => busRead 0x068#12
  | .wrCtCode1 d => busWrite 0x068#12 d
  | .rdCtCode2 => busRead 0x06C#12
  | .wrCtCode2 d => busWrite 0x06C#12 d
  | .rdCtCode3 => busRead 0x070#12
  | .wrCtCode3 d => busWrite 0x070#12 d
  | .rdCtCode4 => busRead 0x074#12
  | .wrCtCode4 d => busWrite 0x074#12 d
  | .rdCtCode5 => busRead 0x078#12
  | .wrCtCode5 d => busWrite 0x078#12 d
  | .rdCtCode6 => busRead 0x07C#12
  | .wrCtCode6 d => busWrite 0x07C#12 d
  | .rdCtCode7 => busRead 0x080#12
  | .wrCtCode7 d => busWrite 0x080#12 d
  | .rdNdSel => busRead 0x084#12
  | .wrNdSel d => busWrite 0x084#12 d
  | .rdNdInfo => busRead 0x088#12
  | .wrNdInfo d => busWrite 0x088#12 d
  | .rdNdChild => busRead 0x08C#12
  | .wrNdChild d => busWrite 0x08C#12 d
  | .rdNdWLo => busRead 0x090#12
  | .wrNdWLo d => busWrite 0x090#12 d
  | .rdNdWHi => busRead 0x094#12
  | .wrNdWHi d => busWrite 0x094#12 d
  | .rdFt s => busRead (ftOffset s)
  | .wrFt s d => busWrite (ftOffset s) d
  | .rdReservedHigh off => busRead off
  | .rdReservedLow off => busRead off
  | .wrReservedHigh off d => busWrite off d
  | .wrReservedLow off d => busWrite off d

/-- The byte record of an instruction. -/
def encodeBytes (i : Instr) : List Byte :=
  match encode i with
  | .cmd w => leBytes 4 w.toNat
  | .bus b => leBytes 7 (natOfBus b)

end Sys2Proof
end

