-- ==== Sys2Proof/Machine/State.lean ====
section
/-! DEFINITION. The state of the HCE as plain data (`10_state.md`), the reasons a step can stop, and the state after reset
(`70_reset_and_hazards.md` R340 to R342). -/

namespace Sys2Proof.Machine

/-- The configuration bits CTRL[4:1] (`10_state.md` R22). SRST has no storage. -/
structure Ctrl where
  padmode : Bool
  cntchk  : Bool
  padchk  : Bool
  ie      : Bool
  deriving DecidableEq, Repr

/-- The locals of a running ENCODE (`44_encoder.md` R260, `10_state.md` R56). -/
structure EncLocals where
  /-- the padding count -/
  p     : Byte
  /-- the symbols not yet taken: `n - j` -/
  left  : Nat
  /-- the bit accumulator, first bit first, 0 to 7 bits -/
  acc   : List Bool
  /-- the code bits appended so far -/
  nbits : Nat
  deriving DecidableEq, Repr

/-- The locals of a running DECODE (`45_decoder.md` R284, `10_state.md` R57). -/
structure DecLocals where
  /-- the padding header -/
  p   : Byte
  /-- E, the effective code bits -/
  e   : Nat
  /-- j, the bits walked -/
  j   : Nat
  /-- the walker -/
  x   : NodeIx
  /-- the deserializer's current byte -/
  cur : Byte
  /-- its unused bits, 0 to 8 -/
  nb  : Nat
  deriving DecidableEq, Repr

/-- The engine's position in the pseudocode of the accepted command, with its local variables (`10_state.md` R55). -/
inductive Pos where
  /-- accepted, not begun -/
  | start
  /-- FLUSH: the input FIFO is emptied, the output FIFO is next (`41_control_commands.md` R197) -/
  | flushOut
  /-- FLUSH: both FIFOs are emptied -/
  | flushDone
  /-- HDR_WRITE: the header bytes still to be pushed (`44_encoder.md` R251, log 19) -/
  | hdrWrite (rest : List Byte)
  /-- HDR_PARSE: the high byte of N is next (`45_decoder.md` R281) -/
  | parseHigh
  /-- HDR_PARSE: the low byte of N is next -/
  | parseLow (hi : Byte)
  /-- HDR_PARSE: N is read, its check is next -/
  | parseCheckN (n : BitVec 16)
  /-- HDR_PARSE: at a record's start, `left` records remain -/
  | parseSymbol (left : Nat)
  /-- HDR_PARSE: `got` bytes of the record's count are read, giving `c` -/
  | parseCount (left : Nat) (sym : Byte) (got : Nat) (c : Word)
  /-- HDR_PARSE: the record is read whole, its checks are next -/
  | parseCheckRecord (left : Nat) (sym : Byte) (c : Word)
  /-- ENCODE: the padding header is to be pushed (`44_encoder.md` R260) -/
  | encHeader (l : EncLocals)
  /-- ENCODE: at the head of the symbol loop -/
  | encSymbol (l : EncLocals)
  /-- ENCODE: symbol `s` is taken, its code is looked up next -/
  | encLookup (l : EncLocals) (s : Byte)
  /-- ENCODE: bits `i - 1` down to 0 of CODE[s] remain -/
  | encBits (l : EncLocals) (s : Byte) (i : Nat)
  /-- ENCODE: `k` padding bits remain -/
  | encPad (l : EncLocals) (k : Nat)
  /-- DECODE: the padding header is next; `len` is L (`45_decoder.md` R284) -/
  | decHeader (len : Word)
  /-- DECODE: the padding header is taken, its check is next -/
  | decCheckPad (len : Word) (p : Byte)
  /-- DECODE: at the head of the walk -/
  | decWalk (l : DecLocals)
  /-- DECODE: `k` padding bits remain, `z` is the OR of those taken -/
  | decPad (l : DecLocals) (k : Nat) (z : Bool)
  deriving DecidableEq, Repr

/-- The sequencer while BUSY = 1: the accepted command word, the bytes `InByte` has taken, the position
(`10_state.md` R55, `00_scope.md` R14). -/
structure Seq where
  word     : Word
  consumed : BitVec 32
  pos      : Pos
  deriving DecidableEq, Repr

/-- An address of the host. `window off` stands for HCE_BASE + off, as host software names a register
(`30_encoding.md` R140); `number a` is any address of the host, those of the window included (log 7). -/
inductive HostAddr where
  | number (a : Nat)
  | window (off : Offset)
  deriving DecidableEq, Repr

/-- One bus access of the host, at a host address; strobes and, for a read, data mean nothing (`10_state.md` R58,
`20_memory.md` R85). -/
structure Access where
  addr   : HostAddr
  write  : Bool
  strobe : BitVec 4
  data   : Word
  deriving DecidableEq, Repr

/-- One input of the outside world: a bus access, or a level of the `rst_n` pin (`10_state.md` R58; log 2, log 13). -/
inductive Input where
  | access (a : Access)
  | resetPin (level : Bool)
  deriving DecidableEq, Repr

/-- The two agents (`00_scope.md` R6). -/
inductive Agent where
  | host
  | engine
  deriving DecidableEq, Repr

/-- The state of the HCE. BUSY is the presence of `seq` (`10_state.md` R25, R55); the levels, the FIFO flags and IRQ are
functions of the fields. -/
structure State where
  /-- FIFO depths and HCE_BASE (`00_scope.md` R8); no step changes them -/
  params    : Params
  /-- CTRL[4:1] (`10_state.md` R22) -/
  ctrl      : Ctrl
  /-- STATUS.ERR (R26) -/
  err       : Bool
  /-- STATUS.DONE (R27) -/
  done      : Bool
  /-- STATUS.TREE_VALID (R28) -/
  treeValid : Bool
  /-- STATUS.CT_VALID (R29) -/
  ctValid   : Bool
  /-- STATUS.WDROP (R30) -/
  wdrop     : Bool
  /-- ERRCODE (R32) -/
  errcode   : BitVec 8
  /-- ERRINFO (R32) -/
  errinfo   : BitVec 32
  /-- the input FIFO, oldest byte first (R53) -/
  inFifo    : List Byte
  /-- the output FIFO, oldest byte first (R54) -/
  outFifo   : List Byte
  /-- IN_REMAIN (R37) -/
  inRemain  : BitVec 32
  /-- NSYM (R39) -/
  nsym      : BitVec 9
  /-- ROOT (R39) -/
  root      : NodeIx
  /-- SYMCNT (R40) -/
  symcnt    : BitVec 40
  /-- TBITS (R41) -/
  tbits     : BitVec 48
  /-- MAXLEN (R41) -/
  maxlen    : BitVec 8
  /-- PAD (R42) -/
  pad       : BitVec 8
  /-- DCOUNT (R42) -/
  dcount    : BitVec 40
  /-- CT_SEL (R43) -/
  ctSel     : BitVec 8
  /-- ND_SEL (R44) -/
  ndSel     : BitVec 9
  /-- the frequency table (R46) -/
  ft        : Vector Word 256
  /-- the node arena (R48) -/
  arena     : Vector Node 511
  /-- the code table (R47) -/
  ct        : Vector CodeEntry 256
  /-- the sequencer (R55) -/
  seq       : Option Seq
  /-- the read-data port: the result of the last bus read (R58, log 15) -/
  rdata     : Word
  /-- the `rst_n` pin: true when deasserted (R58, log 13) -/
  rstN      : Bool
  /-- model field: what the host does next (log 2) -/
  inputs    : List Input
  /-- model field: which agent moves next (log 1) -/
  sched     : List Agent
  /-- model field: the number of the next free draw (log 4) -/
  draws     : Nat
  deriving DecidableEq, Repr

/-- The faults of the machine: none. "Nothing traps or faults on any address" (`20_memory.md` R85), and a command's error is a
next state (`60_exceptions.md` R310, R312). So nobody raises one. -/
inductive Fault where
  deriving DecidableEq, Repr

/-- Why the model gives a step no meaning. -/
inductive Refusal where
  /-- An instruction without a meaning, raised by its arm of `exec` alone. Safe. -/
  | notModelled (mnemonic : String)
  /-- Raised by a bus access while `rst_n` is asserted: "A model refuses any bus access during reset"
  (`70_reset_and_hazards.md` R340). Safe. -/
  | accessInReset
  /-- Raised by a bus access whose address lies outside the 4 KiB window at HCE_BASE, which the spec does not define: "A model
  built from this spec refuses any bus access or command this spec does not define" (`00_scope.md` R19; log 14). Safe. -/
  | outsideWindow
  deriving DecidableEq, Repr

/-- The table of `f 0`, `f 1`, …, `f (n - 1)`. -/
def tabulate {α : Type} (n : Nat) (f : Nat → α) : Vector α n := ⟨⟨(List.range n).map f⟩, by simp⟩

/-- CTRL after a hard reset: 0x00000004 (`70_reset_and_hazards.md` R340). -/
def Ctrl.reset : Ctrl := { padmode := false, cntchk := true, padchk := false, ie := false }

/-- The HCE with parameters `p` after power-up and the release of `rst_n` (`70_reset_and_hazards.md` R340, R342, `00_scope.md`
R8). The FT, the arena and the code table hold the free values of draw 0 (R341; log 5, log 6). -/
def State.resetWith (p : Params) : State :=
  { params := p, ctrl := Ctrl.reset, err := false, done := false, treeValid := false, ctValid := false,
    wdrop := false, errcode := 0, errinfo := 0, inFifo := [], outFifo := [], inRemain := 0, nsym := 0, root := 0,
    symcnt := 0, tbits := 0, maxlen := 0, pad := 0, dcount := 0, ctSel := 0, ndSel := 0,
    ft := tabulate 256 (Config.freeFt 0), arena := tabulate 511 (Config.freeNode 0),
    ct := tabulate 256 (Config.freeCode 0), seq := none, rdata := 0, rstN := true, inputs := [], sched := [], draws := 1 }

/-- The HCE after power-up at the default depths and the open HCE_BASE (`00_scope.md` R8; log 7). -/
def State.reset : State := State.resetWith Params.default

/-- STATUS.BUSY (`10_state.md` R25). -/
def State.busy (s : State) : Bool := s.seq.isSome

end Sys2Proof.Machine
end

