-- ==== Sys2Proof/Machine/Operands.lean ====
section
/-! DEFINITION. The operand forms of bus operations and the fields of read results (`30_encoding.md` R111, `10_state.md` R22 to
R45), and the byte orders of the streams (`20_memory.md` R83, R84). -/

namespace Sys2Proof.Machine

/-- The configuration bits of a CTRL write: d[4:1] = IE, PADCHK, CNTCHK, PADMODE (`40_host_access.md` R153). -/
def ctrlOfData (d : Word) : Ctrl :=
  { padmode := d.getLsbD 1, cntchk := d.getLsbD 2, padchk := d.getLsbD 3, ie := d.getLsbD 4 }

/-- The SRST bit of a CTRL write: d[0] (`40_host_access.md` R153). -/
def srstOfData (d : Word) : Bool := d.getLsbD 0

/-- `b` as bit `k` of a register word. -/
def bitAt (k : Nat) (b : Bool) : Word := if b then 1#32 <<< k else 0#32

/-- CTRL as read (`40_host_access.md` R152). -/
def ctrlWord (c : Ctrl) : Word :=
  bitAt 1 c.padmode ||| bitAt 2 c.cntchk ||| bitAt 3 c.padchk ||| bitAt 4 c.ie

/-- ACK.DONE_CLR, WDROP_CLR and ERR_CLR (`10_state.md` R34). -/
def ackDoneClr (d : Word) : Bool := d.getLsbD 0

/-- ACK.WDROP_CLR: d[1] (`10_state.md` R34). -/
def ackWdropClr (d : Word) : Bool := d.getLsbD 1

/-- ACK.ERR_CLR: d[2] (`10_state.md` R34). -/
def ackErrClr (d : Word) : Bool := d.getLsbD 2

/-- The low byte of write data: an IN_DATA byte (`10_state.md` R35) or a CT_SEL symbol (R43). -/
def byteOfData (d : Word) : Byte := d.extractLsb' 0 8

/-- The index of an ND_SEL write: d[8:0] (`10_state.md` R44). -/
def nodeSelOfData (d : Word) : BitVec 9 := d.extractLsb' 0 9

/-- `zext_32` (`00_scope.md` R10). -/
def zext32 {w : Nat} (v : BitVec w) : Word := v.setWidth 32

/-- Bits [31:0] of a wide register: the LO half (`10_state.md` R40 to R42). -/
def loHalf {w : Nat} (v : BitVec w) : Word := v.extractLsb' 0 32

/-- Bits from 32 up of a wide register: the HI half (`10_state.md` R40 to R42). -/
def hiHalf {w : Nat} (v : BitVec w) : Word := v.extractLsb' 32 32

/-- Word `i` of a code value: bits [32i+31:32i] (`10_state.md` R43). -/
def codeWord (i : Nat) (code : BitVec 256) : Word := code.extractLsb' (32 * i) 32

/-- ND_INFO of a valid node: bit 31 valid, bits 15:8 the symbol of a leaf, bit 0 leaf (`10_state.md` R44). -/
def nodeInfoWord (n : Node) : Word :=
  bitAt 31 true ||| (if n.leaf then zext32 n.sym <<< 8 else 0#32) ||| bitAt 0 n.leaf

/-- ND_CHILD of a valid node: left in bits 8:0, right in bits 24:16, 0 for a leaf (`10_state.md` R44). -/
def nodeChildWord (n : Node) : Word :=
  if n.leaf then 0#32 else BitVec.ofNat 32 n.left.val ||| (BitVec.ofNat 32 n.right.val <<< 16)

/-- OUT_DATA with a byte: VALID in bit 8, the byte in bits 7:0 (`10_state.md` R36). -/
def outDataWord (b : Byte) : Word := 0x100#32 ||| zext32 b

/-- The bytes of a 32-bit count, most significant first (`20_memory.md` R83). -/
def be32 (c : Word) : List Byte :=
  [c.extractLsb' 24 8, c.extractLsb' 16 8, c.extractLsb' 8 8, c.extractLsb' 0 8]

/-- The bytes of a 16-bit count, most significant first (`20_memory.md` R83). -/
def be16 (n : BitVec 16) : List Byte := [n.extractLsb' 8 8, n.extractLsb' 0 8]

/-- One step of a big-endian read: 256·c + b (`45_decoder.md` R281). -/
def be32Step (c : Word) (b : Byte) : Word := (c <<< 8) ||| zext32 b

/-- The big-endian 16-bit count 256·hi + lo (`45_decoder.md` R281). -/
def be16Of (hi lo : Byte) : BitVec 16 := hi ++ lo

/-- The byte whose bit 7 is the first bit of a list of eight, bit 0 the last (`20_memory.md` R84). -/
def packByte (bits : List Bool) : Byte :=
  bits.foldl (fun b bit => (b <<< 1) ||| (BitVec.ofBool bit).setWidth 8) 0#8

end Sys2Proof.Machine
end

