-- ==== Sys2Proof/Machine/Flags.lean ====
section
/-! DEFINITION. The STATUS bits (`10_state.md` R24 to R31) and the interrupt output (`60_exceptions.md` R320). -/

namespace Sys2Proof.Machine

/-- IN_LEVEL (`10_state.md` R38). -/
def State.inLevel (s : State) : Nat := s.inFifo.length

/-- OUT_LEVEL (`10_state.md` R38). -/
def State.outLevel (s : State) : Nat := s.outFifo.length

/-- STATUS.IN_EMPTY (`10_state.md` R24). -/
def State.inEmpty (s : State) : Bool := decide (s.inLevel = 0)

/-- STATUS.IN_FULL: IN_LEVEL == IFIFO_DEPTH (`10_state.md` R24). -/
def State.inFull (s : State) : Bool := decide (s.inLevel = s.params.ififoDepth)

/-- STATUS.OUT_EMPTY (`10_state.md` R24). -/
def State.outEmpty (s : State) : Bool := decide (s.outLevel = 0)

/-- STATUS.OUT_FULL: OUT_LEVEL == OFIFO_DEPTH (`10_state.md` R24). -/
def State.outFull (s : State) : Bool := decide (s.outLevel = s.params.ofifoDepth)

/-- The interrupt output and STATUS.IRQ (`10_state.md` R31, `60_exceptions.md` R320). -/
def State.irq (s : State) : Bool := s.ctrl.ie && (s.done || s.err)

/-- The STATUS bits defined even during BUSY (`10_state.md` R59), the two others 0. -/
def statusDefined (s : State) : Word :=
  bitAt 0 s.busy ||| bitAt 1 s.err ||| bitAt 2 s.done ||| bitAt 5 s.inEmpty ||| bitAt 6 s.inFull ||| bitAt 7 s.outEmpty
    ||| bitAt 8 s.outFull ||| bitAt 9 s.wdrop ||| bitAt 10 s.irq

/-- STATUS bits 3 and 4, TREE_VALID and CT_VALID (`10_state.md` R24). -/
def statusValid (s : State) : Word := bitAt 3 s.treeValid ||| bitAt 4 s.ctValid

/-- STATUS while BUSY = 0 (`40_host_access.md` R154). -/
def statusWord (s : State) : Word := statusDefined s ||| statusValid s

/-- STATUS while BUSY = 1: bits 3 and 4 are those of a free word (`10_state.md` R60, log 21). -/
def statusBusyWord (s : State) (free : Word) : Word := statusDefined s ||| (free &&& 0x18#32)

end Sys2Proof.Machine
end

