-- ==== Sys2Proof/Machine/Ops.lean ====
section
/-! DEFINITION. The operations the meanings share: register and table access, dropped writes, the two stream primitives
`InByte` and `OutPush`, command acceptance, `done`, error entry (`fail`) and return (ACK), and the resets. -/

namespace Sys2Proof.Machine

/-- What one step answers. -/
abbrev Result := Host.Outcome State Fault Refusal

/-! ### Reads and writes of registers -/

/-- `rdata <- v` (`40_host_access.md`). -/
def readResult (s : State) (v : Word) : State := { s with rdata := v }

/-- A fresh free word on the read-data port (`10_state.md` R60, log 4). -/
def readUnspecified (s : State) : State := { s with rdata := Config.freeWord s.draws, draws := s.draws + 1 }

/-- A read that is defined only while BUSY = 0 (`10_state.md` R60). -/
def readWhenIdle (s : State) (v : Word) : State := if s.busy then readUnspecified s else readResult s v

/-- A write to a read-only register or a reserved offset: nothing changes (`40_host_access.md` R167). -/
def ignoreWrite (s : State) : State := s

/-- A dropped write: WDROP and nothing else (`10_state.md` R30). -/
def dropWrite (s : State) : State := { s with wdrop := true }

/-- A write that is dropped while BUSY = 1 and otherwise gives `t` (`40_host_access.md` R168). -/
def writeWhenIdle (s t : State) : State := if s.busy then dropWrite s else t

/-! ### Tables -/

/-- FT[s] (`10_state.md` R46). -/
def ftGet (ft : Vector Word 256) (sym : Byte) : Word := ft[sym.toNat]'(sym.isLt)

/-- FT[s] <- c (`10_state.md` R46). -/
def ftSet (ft : Vector Word 256) (sym : Byte) (c : Word) : Vector Word 256 := ft.set sym.toNat c sym.isLt

/-- ARENA[i] (`10_state.md` R48). -/
def nodeAt (arena : Vector Node 511) (i : NodeIx) : Node := arena[i.val]

/-- CL[s] and CODE[s] (`10_state.md` R47). -/
def codeAt (ct : Vector CodeEntry 256) (sym : Byte) : CodeEntry := ct[sym.toNat]'(sym.isLt)

/-- CL[s] and CODE[s] written (`10_state.md` R47). -/
def codeSet (ct : Vector CodeEntry 256) (sym : Byte) (e : CodeEntry) : Vector CodeEntry 256 := ct.set sym.toNat e sym.isLt

/-- TREE_VALID <- 0; CT_VALID <- 0 (`10_state.md` R28, R29). -/
def invalidate (s : State) : State := { s with treeValid := false, ctValid := false }

/-- The present symbols with their counts, in ascending symbol order (`10_state.md` R46, `42_tree_builder.md` R211). -/
def presentEntries (ft : Vector Word 256) : List (Byte × Word) :=
  ft.toList.zipIdx.filterMap fun (c, k) => if c = 0#32 then none else some (BitVec.ofNat 8 k, c)

/-- N, the number of present symbols (`00_scope.md` R18). -/
def presentCount (ft : Vector Word 256) : Nat := (presentEntries ft).length

/-! ### Ends of a command -/

/-- The errors of `60_exceptions.md` R311. -/
inductive ErrName where
  | illegalCmd | empty | noTree | noTable | trunc | hdrN | hdrDup | hdrZero | len | sym | mismatch | pad | badBit | midTree
  | padBits | count
  deriving DecidableEq, Repr

/-- ERRCODE of each error (`60_exceptions.md` R311). -/
def errNumber (e : ErrName) : BitVec 8 :=
  match e with
  | .illegalCmd => 0x01
  | .empty => 0x02
  | .noTree => 0x03
  | .noTable => 0x04
  | .trunc => 0x05
  | .hdrN => 0x06
  | .hdrDup => 0x07
  | .hdrZero => 0x08
  | .len => 0x09
  | .sym => 0x0A
  | .mismatch => 0x0B
  | .pad => 0x0C
  | .badBit => 0x0D
  | .midTree => 0x0E
  | .padBits => 0x0F
  | .count => 0x10

/-- `done` (`41_control_commands.md` R194). -/
def cmdDone (s : State) : State := { s with seq := none, done := true }

/-- Error entry, `fail(code, info)` (`60_exceptions.md` R312, R322). -/
def cmdFail (s : State) (e : ErrName) (info : Word) : State :=
  { s with err := true, errcode := errNumber e, errinfo := info, seq := none, done := true }

/-- ACK, the return from an error (`40_host_access.md` R157, `60_exceptions.md` R323). -/
def acknowledge (s : State) (d : Word) : State :=
  { s with
    done := if ackDoneClr d then false else s.done
    wdrop := if ackWdropClr d then false else s.wdrop
    err := if ackErrClr d then false else s.err
    errcode := if ackErrClr d then 0 else s.errcode
    errinfo := if ackErrClr d then 0 else s.errinfo }

/-! ### Start and positions of a command -/

/-- Acceptance of a CMD write; an illegal word fails at once (`41_control_commands.md` R190, `30_encoding.md` R114; log 8). -/
def acceptCmd (s : State) (w : Word) : State :=
  if s.busy || s.err then dropWrite s
  else
    let s' := { s with done := false, seq := some { word := w, consumed := 0, pos := .start } }
    if illegalWord w then cmdFail s' .illegalCmd w else s'

/-- The running command `w` stands at position `p`, no byte taken (`00_scope.md` R14). -/
def enter (s : State) (w : Word) (p : Pos) : State := { s with seq := some { word := w, consumed := 0, pos := p } }

/-- The sequencer moves on to position `p`. -/
def moveTo (s : State) (q : Seq) (p : Pos) : State := { s with seq := some { q with pos := p } }

/-! ### Stream primitives. `none` says that the engine waits. -/

/-- `InByte()`, then on to `next b` (`00_scope.md` R15). -/
def inByte (s : State) (q : Seq) (next : Byte → Pos) : Option State :=
  if s.inRemain = 0#32 then some (cmdFail s .trunc q.consumed)
  else
    match s.inFifo with
    | [] => none
    | b :: rest =>
      some { s with
        inFifo := rest
        inRemain := s.inRemain - 1#32
        seq := some { q with consumed := q.consumed + 1#32, pos := next b } }

/-- `OutPush(b)` (`00_scope.md` R16). -/
def outPush (s : State) (b : Byte) : Option State :=
  if s.outLevel < s.params.ofifoDepth then some { s with outFifo := s.outFifo ++ [b] } else none

/-! ### Resets -/

/-- Every FT entry takes a fresh free value, fixed until written (`70_reset_and_hazards.md` R341, R344; log 5). -/
def redrawFt (s : State) : State := { s with ft := tabulate 256 (Config.freeFt s.draws), draws := s.draws + 1 }

/-- The commands whose abort leaves the FT unspecified: FT_CLEAR and HDR_PARSE (`70_reset_and_hazards.md` R344). -/
def rewritesFt (q : Seq) : Bool :=
  match decodeCmd q.word with
  | .ftClear => true
  | .hdrParse => true
  | _ => false

/-- Abort of the running command (`70_reset_and_hazards.md` R344). -/
def abortCommand (s : State) : State :=
  match s.seq with
  | none => s
  | some q => { (if rewritesFt q then redrawFt s else s) with seq := none }

/-- `SoftReset()` (`70_reset_and_hazards.md` R343). The read-data port keeps its value, on which R343 is silent (DESIGN
CHOICE, log 15). -/
def softReset (s : State) : State :=
  { abortCommand s with
    err := false, done := false, wdrop := false, errcode := 0, errinfo := 0, inFifo := [], outFifo := [], inRemain := 0,
    treeValid := false, ctValid := false, nsym := 0, root := 0, symcnt := 0, tbits := 0, maxlen := 0, pad := 0,
    dcount := 0, ctSel := 0, ndSel := 0 }

/-- `HardReset()` (`70_reset_and_hazards.md` R340): FT, arena and code table take fresh free values (log 5, log 6). The
read-data port keeps its value, on which R340 is silent (DESIGN CHOICE, log 15). -/
def hardReset (s : State) : State :=
  let t := redrawFt (softReset s)
  { t with
    ctrl := Ctrl.reset
    arena := tabulate 511 (Config.freeNode t.draws)
    ct := tabulate 256 (Config.freeCode t.draws)
    draws := t.draws + 1 }

/-! ### The window in the host's address space -/

/-- The host address of an offset (`00_scope.md` R8, `20_memory.md` R87). -/
def hostAddress (p : Params) (off : Offset) : Nat := p.hceBase + off.toNat

/-- The number of a host address (`00_scope.md` R8). -/
def HostAddr.toNat (addr : HostAddr) (p : Params) : Nat :=
  match addr with
  | .number a => a
  | .window off => hostAddress p off

/-- The offset a host address has in the 4 KiB window, if it lies in the window (`00_scope.md` R8). -/
def windowOffset (p : Params) (addr : HostAddr) : Option Offset :=
  match addr with
  | .number a => if p.hceBase ≤ a ∧ a < p.hceBase + 4096 then some (BitVec.ofNat 12 (a - p.hceBase)) else none
  | .window off => some off

end Sys2Proof.Machine
end

