-- ==== Sys2Proof/Machine/Builder.lean ====
section
/-! DEFINITION. The code-tree builder, BUILD (`42_tree_builder.md` R210 to R225). -/

namespace Sys2Proof.Machine

/-- The key of a queued node: (weight, arena index) (`42_tree_builder.md` R213). -/
abbrev Key := Nat × Nat

/-- The queue order (`42_tree_builder.md` R213). -/
def keyLt (a b : Key) : Bool := decide (a.1 < b.1) || (decide (a.1 = b.1) && decide (a.2 < b.2))

/-- The lesser of two keys. -/
def keyMin (a b : Key) : Key := if keyLt b a then b else a

/-- ExtractMin: the element with the least key, and the queue without it (`42_tree_builder.md` R214). -/
def extractMin (q : List Key) : Option (Key × List Key) :=
  match q with
  | [] => none
  | k :: rest =>
    let m := rest.foldl keyMin k
    some (m, (k :: rest).erase m)

/-- The leaf of a present symbol (`42_tree_builder.md` R211). -/
def leafNode (e : Byte × Word) : Node :=
  { leaf := true, sym := e.1, w := e.2.setWidth 40, left := 0, right := 0 }

/-- The leaves, index 0 first (`42_tree_builder.md` R211). -/
def leafNodes (ft : Vector Word 256) : List Node := (presentEntries ft).map leafNode

/-- The queue the leaves seed: index `i` with the weight of leaf `i` (`42_tree_builder.md` R214). -/
def leafKeys (ft : Vector Word 256) : List Key := (presentEntries ft).zipIdx.map fun (e, i) => (e.2.toNat, i)

/-- The internal node of a merge: the first extracted is the left child (`42_tree_builder.md` R214, R215). -/
def mergeNode (a b : Key) : Node :=
  { leaf := false, sym := 0, w := BitVec.ofNat 40 (a.1 + b.1), left := Fin.ofNat 511 a.2, right := Fin.ofNat 511 b.2 }

/-- The internal nodes of `merges` merges, the first at index `next` (`42_tree_builder.md` R212, R214). -/
def mergeNodes (merges next : Nat) (q : List Key) : List Node :=
  match merges with
  | 0 => []
  | k + 1 =>
    match extractMin q with
    | none => []
    | some (a, q1) =>
      match extractMin q1 with
      | none => []
      | some (b, q2) => mergeNode a b :: mergeNodes k (next + 1) ((a.1 + b.1, next) :: q2)

/-- The tree of a frequency table: the arena entries 0 to 2N - 2 (`42_tree_builder.md` R212, R221). -/
def treeNodes (ft : Vector Word 256) : List Node :=
  leafNodes ft ++ mergeNodes (presentCount ft - 1) (presentCount ft) (leafKeys ft)

/-- `nodes` laid over the first entries of a list. -/
def overlay (nodes old : List Node) : List Node :=
  match nodes, old with
  | _, [] => []
  | [], o :: os => o :: os
  | n :: ns, _ :: os => n :: overlay ns os

/-- Laying nodes over a list keeps its length. -/
theorem overlay_length (nodes old : List Node) : (overlay nodes old).length = old.length := by
  induction nodes generalizing old with
  | nil => cases old <;> rfl
  | cons n ns ih =>
    cases old with
    | nil => rfl
    | cons o os => simp [overlay, ih]

/-- The arena with entries 0 to 2N - 2 written; the entries above keep what they hold (`10_state.md` R48, log 6). -/
def writeArena (nodes : List Node) (arena : Vector Node 511) : Vector Node 511 :=
  ⟨⟨overlay nodes arena.toList⟩, by simp [overlay_length]⟩

/-- ROOT of a tree of N leaves: 2N - 2 (`42_tree_builder.md` R217). -/
def rootOf (n : Nat) : NodeIx := Fin.ofNat 511 (2 * n - 2)

/-- BUILD with at least one present symbol (`42_tree_builder.md` R214, R217). -/
def buildTree (s : State) : State :=
  let arena := writeArena (treeNodes s.ft) s.arena
  let root := rootOf (presentCount s.ft)
  { s with
    arena := arena, root := root, nsym := BitVec.ofNat 9 (presentCount s.ft), symcnt := (nodeAt arena root).w,
    treeValid := true, ctValid := false }

/-- BUILD from its start to its end (`42_tree_builder.md` R214, R218). -/
def buildStep (s : State) : State :=
  if presentCount s.ft = 0 then cmdFail (invalidate s) .empty 0 else cmdDone (buildTree s)

/-- BUILD (`42_tree_builder.md` R214). -/
def execBuild (s : State) : Result := .next (buildStep s)

end Sys2Proof.Machine
end

