-- ==== Sys2Proof/Machine/BusControl.lean ====
section
/-! DEFINITION. Bus operations on the identification, control, status, error and command registers (`40_host_access.md` R151 to R157,
`41_control_commands.md` R190). -/

namespace Sys2Proof.Machine

/-- RD ID (`40_host_access.md` R151, `10_state.md` R21). -/
def execRdId (s : State) : Result := .next (readResult s 0x48434531#32)

/-- WR ID (`40_host_access.md` R167): ignored, WDROP is not set. -/
def execWrId (_data : Word) (s : State) : Result := .next (ignoreWrite s)

/-- RD VERSION (`40_host_access.md` R151, `10_state.md` R21). -/
def execRdVersion (s : State) : Result := .next (readResult s 0x00000001#32)

/-- WR VERSION (`40_host_access.md` R167): ignored, WDROP is not set. -/
def execWrVersion (_data : Word) (s : State) : Result := .next (ignoreWrite s)

/-- RD CTRL (`40_host_access.md` R152). -/
def execRdCtrl (s : State) : Result := .next (readResult s (ctrlWord s.ctrl))

/-- The effect of a CTRL write: with SRST a soft reset, then the load; without it the load, or a drop while BUSY = 1
(`40_host_access.md` R153, `70_reset_and_hazards.md` R343). -/
def writeCtrl (s : State) (d : Word) : State :=
  if srstOfData d then { softReset s with ctrl := ctrlOfData d }
  else writeWhenIdle s { s with ctrl := ctrlOfData d }

/-- WR CTRL (`40_host_access.md` R153). -/
def execWrCtrl (data : Word) (s : State) : Result := .next (writeCtrl s data)

/-- RD STATUS: bits 3 and 4 are unspecified while BUSY = 1 (`40_host_access.md` R154, `10_state.md` R60; log 21). -/
def execRdStatus (s : State) : Result :=
  .next (if s.busy then { readResult s (statusBusyWord s (Config.freeWord s.draws)) with draws := s.draws + 1 }
    else readResult s (statusWord s))

/-- WR STATUS (`40_host_access.md` R167): ignored, WDROP is not set. -/
def execWrStatus (_data : Word) (s : State) : Result := .next (ignoreWrite s)

/-- RD ERRCODE (`40_host_access.md` R155). -/
def execRdErrcode (s : State) : Result := .next (readResult s (zext32 s.errcode))

/-- WR ERRCODE (`40_host_access.md` R167): ignored, WDROP is not set. -/
def execWrErrcode (_data : Word) (s : State) : Result := .next (ignoreWrite s)

/-- RD ERRINFO (`40_host_access.md` R155). -/
def execRdErrinfo (s : State) : Result := .next (readResult s s.errinfo)

/-- WR ERRINFO (`40_host_access.md` R167): ignored, WDROP is not set. -/
def execWrErrinfo (_data : Word) (s : State) : Result := .next (ignoreWrite s)

/-- RD CMD (`40_host_access.md` R156), the same while BUSY = 1 (log 25). -/
def execRdCmd (s : State) : Result := .next (readResult s 0#32)

/-- WR CMD: acceptance of a command word (`41_control_commands.md` R190). -/
def execWrCmd (data : Word) (s : State) : Result := .next (acceptCmd s data)

/-- RD ACK (`40_host_access.md` R156), the same while BUSY = 1 (log 25). -/
def execRdAck (s : State) : Result := .next (readResult s 0#32)

/-- WR ACK (`40_host_access.md` R157). -/
def execWrAck (data : Word) (s : State) : Result := .next (acknowledge s data)

end Sys2Proof.Machine
end

