-- ==== Sys2Proof/Machine/BusReadout.lean ====
section
/-! DEFINITION. Bus operations on the code-table and node readout ports (`40_host_access.md` R165, R166, `10_state.md` R43, R44). -/

namespace Sys2Proof.Machine

/-- RD CT_SEL (`40_host_access.md` R165). -/
def execRdCtSel (s : State) : Result := .next (readResult s (zext32 s.ctSel))

/-- WR CT_SEL (`40_host_access.md` R165). -/
def execWrCtSel (data : Word) (s : State) : Result := .next { s with ctSel := byteOfData data }

/-- What the code-table readout shows: the selected entry, 0 while CT_VALID = 0 (`10_state.md` R43). -/
def selectedCode (s : State) : CodeEntry := if s.ctValid then codeAt s.ct s.ctSel else { len := 0, code := 0 }

/-- RD CT_LEN (`40_host_access.md` R165). -/
def execRdCtLen (s : State) : Result := .next (readWhenIdle s (zext32 (selectedCode s).len))

/-- WR CT_LEN (`40_host_access.md` R167): ignored, WDROP is not set. -/
def execWrCtLen (_data : Word) (s : State) : Result := .next (ignoreWrite s)

/-- RD CT_CODE0 (`40_host_access.md` R165). -/
def execRdCtCode0 (s : State) : Result := .next (readWhenIdle s (codeWord 0 (selectedCode s).code))

/-- WR CT_CODE0 (`40_host_access.md` R167): ignored, WDROP is not set. -/
def execWrCtCode0 (_data : Word) (s : State) : Result := .next (ignoreWrite s)

/-- RD CT_CODE1 (`40_host_access.md` R165). -/
def execRdCtCode1 (s : State) : Result := .next (readWhenIdle s (codeWord 1 (selectedCode s).code))

/-- WR CT_CODE1 (`40_host_access.md` R167): ignored, WDROP is not set. -/
def execWrCtCode1 (_data : Word) (s : State) : Result := .next (ignoreWrite s)

/-- RD CT_CODE2 (`40_host_access.md` R165). -/
def execRdCtCode2 (s : State) : Result := .next (readWhenIdle s (codeWord 2 (selectedCode s).code))

/-- WR CT_CODE2 (`40_host_access.md` R167): ignored, WDROP is not set. -/
def execWrCtCode2 (_data : Word) (s : State) : Result := .next (ignoreWrite s)

/-- RD CT_CODE3 (`40_host_access.md` R165). -/
def execRdCtCode3 (s : State) : Result := .next (readWhenIdle s (codeWord 3 (selectedCode s).code))

/-- WR CT_CODE3 (`40_host_access.md` R167): ignored, WDROP is not set. -/
def execWrCtCode3 (_data : Word) (s : State) : Result := .next (ignoreWrite s)

/-- RD CT_CODE4 (`40_host_access.md` R165). -/
def execRdCtCode4 (s : State) : Result := .next (readWhenIdle s (codeWord 4 (selectedCode s).code))

/-- WR CT_CODE4 (`40_host_access.md` R167): ignored, WDROP is not set. -/
def execWrCtCode4 (_data : Word) (s : State) : Result := .next (ignoreWrite s)

/-- RD CT_CODE5 (`40_host_access.md` R165). -/
def execRdCtCode5 (s : State) : Result := .next (readWhenIdle s (codeWord 5 (selectedCode s).code))

/-- WR CT_CODE5 (`40_host_access.md` R167): ignored, WDROP is not set. -/
def execWrCtCode5 (_data : Word) (s : State) : Result := .next (ignoreWrite s)

/-- RD CT_CODE6 (`40_host_access.md` R165). -/
def execRdCtCode6 (s : State) : Result := .next (readWhenIdle s (codeWord 6 (selectedCode s).code))

/-- WR CT_CODE6 (`40_host_access.md` R167): ignored, WDROP is not set. -/
def execWrCtCode6 (_data : Word) (s : State) : Result := .next (ignoreWrite s)

/-- RD CT_CODE7 (`40_host_access.md` R165). -/
def execRdCtCode7 (s : State) : Result := .next (readWhenIdle s (codeWord 7 (selectedCode s).code))

/-- WR CT_CODE7 (`40_host_access.md` R167): ignored, WDROP is not set. -/
def execWrCtCode7 (_data : Word) (s : State) : Result := .next (ignoreWrite s)

/-- RD ND_SEL (`40_host_access.md` R166). -/
def execRdNdSel (s : State) : Result := .next (readResult s (zext32 s.ndSel))

/-- WR ND_SEL (`40_host_access.md` R166). -/
def execWrNdSel (data : Word) (s : State) : Result := .next { s with ndSel := nodeSelOfData data }

/-- The selected node when `valid`: TREE_VALID = 1 and the index at most ROOT (`10_state.md` R44). -/
def selectedNode (s : State) : Option Node :=
  if h : s.treeValid = true ∧ s.ndSel.toNat ≤ s.root.val then
    some (nodeAt s.arena ⟨s.ndSel.toNat, Nat.lt_of_le_of_lt h.2 s.root.isLt⟩)
  else none

/-- A node readout: `f` of the selected node, 0 when it is not valid (`10_state.md` R44). -/
def nodeReadout (s : State) (f : Node → Word) : Word := ((selectedNode s).map f).getD 0#32

/-- RD ND_INFO (`40_host_access.md` R166). -/
def execRdNdInfo (s : State) : Result := .next (readWhenIdle s (nodeReadout s nodeInfoWord))

/-- WR ND_INFO (`40_host_access.md` R167): ignored, WDROP is not set. -/
def execWrNdInfo (_data : Word) (s : State) : Result := .next (ignoreWrite s)

/-- RD ND_CHILD (`40_host_access.md` R166). -/
def execRdNdChild (s : State) : Result := .next (readWhenIdle s (nodeReadout s nodeChildWord))

/-- WR ND_CHILD (`40_host_access.md` R167): ignored, WDROP is not set. -/
def execWrNdChild (_data : Word) (s : State) : Result := .next (ignoreWrite s)

/-- RD ND_W_LO (`40_host_access.md` R166). -/
def execRdNdWLo (s : State) : Result := .next (readWhenIdle s (nodeReadout s (fun n => loHalf n.w)))

/-- WR ND_W_LO (`40_host_access.md` R167): ignored, WDROP is not set. -/
def execWrNdWLo (_data : Word) (s : State) : Result := .next (ignoreWrite s)

/-- RD ND_W_HI (`40_host_access.md` R166). -/
def execRdNdWHi (s : State) : Result := .next (readWhenIdle s (nodeReadout s (fun n => hiHalf n.w)))

/-- WR ND_W_HI (`40_host_access.md` R167): ignored, WDROP is not set. -/
def execWrNdWHi (_data : Word) (s : State) : Result := .next (ignoreWrite s)

end Sys2Proof.Machine
end

