-- ==== Sys2Proof/Machine/BusResult.lean ====
section
/-! DEFINITION. Bus operations on the result registers (`40_host_access.md` R162, `10_state.md` R39 to R42). -/

namespace Sys2Proof.Machine

/-- RD NSYM (`40_host_access.md` R162, `10_state.md` R39). -/
def execRdNsym (s : State) : Result := .next (readWhenIdle s (zext32 s.nsym))

/-- WR NSYM (`40_host_access.md` R167): ignored, WDROP is not set. -/
def execWrNsym (_data : Word) (s : State) : Result := .next (ignoreWrite s)

/-- RD ROOT (`40_host_access.md` R162, `10_state.md` R39). -/
def execRdRoot (s : State) : Result := .next (readWhenIdle s (BitVec.ofNat 32 s.root.val))

/-- WR ROOT (`40_host_access.md` R167): ignored, WDROP is not set. -/
def execWrRoot (_data : Word) (s : State) : Result := .next (ignoreWrite s)

/-- RD SYMCNT_LO (`40_host_access.md` R162, `10_state.md` R40). -/
def execRdSymcntLo (s : State) : Result := .next (readWhenIdle s (loHalf s.symcnt))

/-- WR SYMCNT_LO (`40_host_access.md` R167): ignored, WDROP is not set. -/
def execWrSymcntLo (_data : Word) (s : State) : Result := .next (ignoreWrite s)

/-- RD SYMCNT_HI (`40_host_access.md` R162, `10_state.md` R40). -/
def execRdSymcntHi (s : State) : Result := .next (readWhenIdle s (hiHalf s.symcnt))

/-- WR SYMCNT_HI (`40_host_access.md` R167): ignored, WDROP is not set. -/
def execWrSymcntHi (_data : Word) (s : State) : Result := .next (ignoreWrite s)

/-- RD TBITS_LO (`40_host_access.md` R162, `10_state.md` R41). -/
def execRdTbitsLo (s : State) : Result := .next (readWhenIdle s (loHalf s.tbits))

/-- WR TBITS_LO (`40_host_access.md` R167): ignored, WDROP is not set. -/
def execWrTbitsLo (_data : Word) (s : State) : Result := .next (ignoreWrite s)

/-- RD TBITS_HI (`40_host_access.md` R162, `10_state.md` R41). -/
def execRdTbitsHi (s : State) : Result := .next (readWhenIdle s (hiHalf s.tbits))

/-- WR TBITS_HI (`40_host_access.md` R167): ignored, WDROP is not set. -/
def execWrTbitsHi (_data : Word) (s : State) : Result := .next (ignoreWrite s)

/-- RD MAXLEN (`40_host_access.md` R162, `10_state.md` R41). -/
def execRdMaxlen (s : State) : Result := .next (readWhenIdle s (zext32 s.maxlen))

/-- WR MAXLEN (`40_host_access.md` R167): ignored, WDROP is not set. -/
def execWrMaxlen (_data : Word) (s : State) : Result := .next (ignoreWrite s)

/-- RD PAD (`40_host_access.md` R162, `10_state.md` R42). -/
def execRdPad (s : State) : Result := .next (readWhenIdle s (zext32 s.pad))

/-- WR PAD (`40_host_access.md` R167): ignored, WDROP is not set. -/
def execWrPad (_data : Word) (s : State) : Result := .next (ignoreWrite s)

/-- RD DCOUNT_LO (`40_host_access.md` R162, `10_state.md` R42). -/
def execRdDcountLo (s : State) : Result := .next (readWhenIdle s (loHalf s.dcount))

/-- WR DCOUNT_LO (`40_host_access.md` R167): ignored, WDROP is not set. -/
def execWrDcountLo (_data : Word) (s : State) : Result := .next (ignoreWrite s)

/-- RD DCOUNT_HI (`40_host_access.md` R162, `10_state.md` R42). -/
def execRdDcountHi (s : State) : Result := .next (readWhenIdle s (hiHalf s.dcount))

/-- WR DCOUNT_HI (`40_host_access.md` R167): ignored, WDROP is not set. -/
def execWrDcountHi (_data : Word) (s : State) : Result := .next (ignoreWrite s)

end Sys2Proof.Machine
end

