-- ==== Sys2Proof/Machine/BusStream.lean ====
section
/-! DEFINITION. Bus operations on the stream registers (`40_host_access.md` R156, R158 to R161). -/

namespace Sys2Proof.Machine

/-- RD IN_DATA (`40_host_access.md` R156), the same while BUSY = 1 (log 25). -/
def execRdInData (s : State) : Result := .next (readResult s 0#32)

/-- A byte arriving at the input FIFO: appended, or dropped when the FIFO is full (`40_host_access.md` R158). -/
def pushInput (s : State) (b : Byte) : State := if s.inFull then dropWrite s else { s with inFifo := s.inFifo ++ [b] }

/-- WR IN_DATA (`40_host_access.md` R158). -/
def execWrInData (data : Word) (s : State) : Result := .next (pushInput s (byteOfData data))

/-- The oldest byte of the output FIFO on the read-data port, or 0 (`40_host_access.md` R159). -/
def popOutput (s : State) : State :=
  match s.outFifo with
  | [] => readResult s 0#32
  | b :: rest => readResult { s with outFifo := rest } (outDataWord b)

/-- RD OUT_DATA (`40_host_access.md` R159). -/
def execRdOutData (s : State) : Result := .next (popOutput s)

/-- WR OUT_DATA (`40_host_access.md` R167): ignored, WDROP is not set. -/
def execWrOutData (_data : Word) (s : State) : Result := .next (ignoreWrite s)

/-- RD IN_REMAIN (`40_host_access.md` R160). -/
def execRdInRemain (s : State) : Result := .next (readResult s s.inRemain)

/-- WR IN_REMAIN (`40_host_access.md` R160). -/
def execWrInRemain (data : Word) (s : State) : Result := .next (writeWhenIdle s { s with inRemain := data })

/-- RD IN_LEVEL (`40_host_access.md` R161). -/
def execRdInLevel (s : State) : Result := .next (readResult s (BitVec.ofNat 32 s.inLevel))

/-- WR IN_LEVEL (`40_host_access.md` R167): ignored, WDROP is not set. -/
def execWrInLevel (_data : Word) (s : State) : Result := .next (ignoreWrite s)

/-- RD OUT_LEVEL (`40_host_access.md` R161). -/
def execRdOutLevel (s : State) : Result := .next (readResult s (BitVec.ofNat 32 s.outLevel))

/-- WR OUT_LEVEL (`40_host_access.md` R167): ignored, WDROP is not set. -/
def execWrOutLevel (_data : Word) (s : State) : Result := .next (ignoreWrite s)

end Sys2Proof.Machine
end

