-- ==== Sys2Proof/Machine/BusTable.lean ====
section
/-! DEFINITION. Bus operations on the FT window and on reserved offsets (`40_host_access.md` R163, R164, R167, `10_state.md` R45, R49). -/

namespace Sys2Proof.Machine

/-- RD FT[s] (`40_host_access.md` R164). -/
def execRdFt (sym : Byte) (s : State) : Result := .next (readWhenIdle s (ftGet s.ft sym))

/-- WR FT[s]: the count, and both valid bits cleared (`40_host_access.md` R163). -/
def execWrFt (sym : Byte) (data : Word) (s : State) : Result :=
  .next (writeWhenIdle s (invalidate { s with ft := ftSet s.ft sym data }))

/-- RD of a reserved offset 0x800 to 0xFFC (`40_host_access.md` R167, `10_state.md` R49); the same while BUSY = 1 (log 25). -/
def execRdReservedHigh (_off : Offset) (s : State) : Result := .next (readResult s 0#32)

/-- RD of a reserved offset 0x098 to 0x3FC (`40_host_access.md` R167, `10_state.md` R49); the same while BUSY = 1 (log 25). -/
def execRdReservedLow (_off : Offset) (s : State) : Result := .next (readResult s 0#32)

/-- WR of a reserved offset 0x800 to 0xFFC (`40_host_access.md` R167, `10_state.md` R49). -/
def execWrReservedHigh (_off : Offset) (_data : Word) (s : State) : Result := .next (ignoreWrite s)

/-- WR of a reserved offset 0x098 to 0x3FC (`40_host_access.md` R167, `10_state.md` R49). -/
def execWrReservedLow (_off : Offset) (_data : Word) (s : State) : Result := .next (ignoreWrite s)

end Sys2Proof.Machine
end

