-- ==== Sys2Proof/Machine/Control.lean ====
section
/-! DEFINITION. The control commands (`41_control_commands.md`) and the illegal command word (`30_encoding.md` R114). -/

namespace Sys2Proof.Machine

/-- NOP (`41_control_commands.md` R195). -/
def execNop (s : State) : Result := .next (cmdDone s)

/-- FT_CLEAR (`41_control_commands.md` R196). -/
def execFtClear (s : State) : Result :=
  .next (cmdDone (invalidate { s with ft := Vector.replicate 256 0#32 }))

/-- FLUSH, one emptying a step (`41_control_commands.md` R197, `70_reset_and_hazards.md` R358; log 9). -/
def flushStep (s : State) : State :=
  match s.seq with
  | none => enter { s with inFifo := [] } 0x8#32 .flushOut
  | some q =>
    match q.pos with
    | .flushOut => moveTo { s with outFifo := [] } q .flushDone
    | .flushDone => cmdDone s
    | _ => enter { s with inFifo := [] } 0x8#32 .flushOut

/-- FLUSH (`41_control_commands.md` R197). -/
def execFlush (s : State) : Result := .next (flushStep s)

/-- An illegal command word: `fail(ILLEGAL_CMD, word)` (`30_encoding.md` R114, `60_exceptions.md` R311). -/
def execIllegalCmd (word : Word) (s : State) : Result := .next (cmdFail s .illegalCmd word)

end Sys2Proof.Machine
end

