-- ==== Sys2Proof/Machine/Decoder.lean ====
section
/-! DEFINITION. Decoder framing and bit-stream decoder, HDR_PARSE and DECODE (`45_decoder.md` R280 to R301). A step function
answers `none` while the engine waits; the meaning then leaves the state as it is (`00_scope.md` R15, R16; log 3). -/

namespace Sys2Proof.Machine

/-- The start of HDR_PARSE: the FT is emptied, the valid bits are cleared (`45_decoder.md` R281). -/
def hdrParseStart (s : State) : State :=
  enter (invalidate { s with ft := Vector.replicate 256 0#32 }) 0x5#32 .parseHigh

/-- The check of N (`45_decoder.md` R281, R282). -/
def parseCheckNStep (s : State) (q : Seq) (n : BitVec 16) : State :=
  if n.toNat = 0 ∨ 256 < n.toNat then cmdFail s .hdrN (zext32 n) else moveTo s q (.parseSymbol n.toNat)

/-- The checks of a record read whole, the duplicate first (`45_decoder.md` R281, R282). -/
def parseRecordStep (s : State) (q : Seq) (left : Nat) (sym : Byte) (c : Word) : State :=
  if ftGet s.ft sym ≠ 0#32 then cmdFail s .hdrDup (zext32 sym)
  else if c = 0#32 then cmdFail s .hdrZero (zext32 sym)
  else moveTo { s with ft := ftSet s.ft sym c } q (.parseSymbol (left - 1))

/-- A byte of a record's count; the fourth completes the record (`45_decoder.md` R281). -/
def parseCountStep (s : State) (q : Seq) (left : Nat) (sym : Byte) (got : Nat) (c : Word) : Option State :=
  inByte s q fun b =>
    if got + 1 < 4 then .parseCount left sym (got + 1) (be32Step c b) else .parseCheckRecord left sym (be32Step c b)

/-- One step of HDR_PARSE from its position (`45_decoder.md` R281). -/
def hdrParseStep (s : State) : Option State :=
  match s.seq with
  | none => some (hdrParseStart s)
  | some q =>
    match q.pos with
    | .parseHigh => inByte s q .parseLow
    | .parseLow hi => inByte s q fun lo => .parseCheckN (be16Of hi lo)
    | .parseCheckN n => some (parseCheckNStep s q n)
    | .parseSymbol 0 => some (cmdDone s)
    | .parseSymbol (k + 1) => inByte s q fun b => .parseCount (k + 1) b 0 0#32
    | .parseCount left sym got c => parseCountStep s q left sym got c
    | .parseCheckRecord left sym c => some (parseRecordStep s q left sym c)
    | _ => some (hdrParseStart s)

/-- HDR_PARSE (`45_decoder.md` R281). -/
def execHdrParse (s : State) : Result := .next ((hdrParseStep s).getD s)

/-- The start of DECODE (`45_decoder.md` R283, R284). -/
def decodeStart (s : State) : State :=
  if s.treeValid then enter { s with dcount := 0 } 0x7#32 (.decHeader s.inRemain) else cmdFail s .noTree 0

/-- The padding header: PAD, and its check (`45_decoder.md` R284, R285). -/
def decCheckPadStep (s : State) (q : Seq) (len : Word) (p : Byte) : State :=
  let t := { s with pad := p }
  let bits := 8 * (len.toNat - 1)
  if 8 < p.toNat ∨ bits < p.toNat then cmdFail t .pad (zext32 p)
  else moveTo t q (.decWalk { p := p, e := bits - p.toNat, j := 0, x := s.root, cur := 0, nb := 0 })

/-- The bit `NextBit()` returns when `nb` bits are left: cur[nb - 1] (`45_decoder.md` R288). -/
def DecLocals.bit (l : DecLocals) : Bool := l.cur.getLsbD (l.nb - 1)

/-- `NextBit()` with no bit left takes the next byte of the stream (`45_decoder.md` R288). -/
def nextByte (s : State) (q : Seq) (l : DecLocals) (at' : DecLocals → Pos) : Option State :=
  inByte s q fun b => at' { l with cur := b, nb := 8 }

/-- A symbol decoded: pushed and counted, the walker back at ROOT (`45_decoder.md` R284, R290; log 20). -/
def emitSymbol (s : State) (q : Seq) (l : DecLocals) (sym : Byte) : Option State :=
  (outPush s sym).map fun t =>
    moveTo { t with dcount := t.dcount + 1 } q (.decWalk { l with j := l.j + 1, x := s.root, nb := l.nb - 1 })

/-- One effective bit of the walk (`45_decoder.md` R284, R287, R289). -/
def walkBit (s : State) (q : Seq) (l : DecLocals) : Option State :=
  let r := nodeAt s.arena s.root
  if r.leaf then
    if l.bit then some (cmdFail s .badBit (BitVec.ofNat 32 l.j)) else emitSymbol s q l r.sym
  else
    let n := nodeAt s.arena l.x
    let x := if l.bit then n.right else n.left
    if (nodeAt s.arena x).leaf then emitSymbol s q l (nodeAt s.arena x).sym
    else some (moveTo s q (.decWalk { l with j := l.j + 1, x := x, nb := l.nb - 1 }))

/-- The head of the walk: the mid-tree check after the last bit, a byte, or a bit (`45_decoder.md` R284, R291). -/
def decWalkStep (s : State) (q : Seq) (l : DecLocals) : Option State :=
  if l.e ≤ l.j then
    if l.x ≠ s.root then some (cmdFail s .midTree (loHalf s.dcount)) else some (moveTo s q (.decPad l l.p.toNat false))
  else if l.nb = 0 then nextByte s q l .decWalk
  else walkBit s q l

/-- The checks after the padding bits, then `done` (`45_decoder.md` R284, R295, R296). -/
def decEnd (s : State) (l : DecLocals) (z : Bool) : State :=
  if s.ctrl.padchk && z then cmdFail s .padBits (zext32 l.p)
  else if s.ctrl.cntchk && s.dcount != s.symcnt then cmdFail s .count (loHalf s.dcount)
  else cmdDone s

/-- The padding bits (`45_decoder.md` R284, R292). -/
def decPadStep (s : State) (q : Seq) (l : DecLocals) (k : Nat) (z : Bool) : Option State :=
  match k with
  | 0 => some (decEnd s l z)
  | m + 1 =>
    if l.nb = 0 then nextByte s q l fun l' => .decPad l' (m + 1) z
    else some (moveTo s q (.decPad { l with nb := l.nb - 1 } m (z || l.bit)))

/-- One step of DECODE from its position (`45_decoder.md` R284). -/
def decodeStep (s : State) : Option State :=
  match s.seq with
  | none => some (decodeStart s)
  | some q =>
    match q.pos with
    | .decHeader len => inByte s q (.decCheckPad len)
    | .decCheckPad len p => some (decCheckPadStep s q len p)
    | .decWalk l => decWalkStep s q l
    | .decPad l k z => decPadStep s q l k z
    | _ => some (decodeStart s)

/-- DECODE (`45_decoder.md` R284). -/
def execDecode (s : State) : Result := .next ((decodeStep s).getD s)

end Sys2Proof.Machine
end

