-- ==== Sys2Proof/Machine/Encoder.lean ====
section
/-! DEFINITION. Encoder framing and bit-stream encoder, HDR_WRITE and ENCODE (`44_encoder.md` R250 to R269). A step function
answers `none` while the engine waits; the meaning then leaves the state as it is (`00_scope.md` R15, R16; log 3). -/

namespace Sys2Proof.Machine

/-- One header record: the symbol byte and its count, most significant byte first (`44_encoder.md` R251). -/
def headerRecord (e : Byte × Word) : List Byte := e.1 :: be32 e.2

/-- The frequency header: N, then a record per present symbol in ascending order (`44_encoder.md` R251, R252). -/
def headerBytes (ft : Vector Word 256) : List Byte :=
  be16 (BitVec.ofNat 16 (presentCount ft)) ++ (presentEntries ft).flatMap headerRecord

/-- The start of HDR_WRITE (`44_encoder.md` R251, log 19). -/
def hdrWriteStart (s : State) : State :=
  if presentCount s.ft = 0 then cmdFail s .empty 0 else enter s 0x4#32 (.hdrWrite (headerBytes s.ft))

/-- One step of HDR_WRITE: one push, or the end (`44_encoder.md` R251). -/
def hdrWriteStep (s : State) : Option State :=
  match s.seq with
  | none => some (hdrWriteStart s)
  | some q =>
    match q.pos with
    | .hdrWrite [] => some (cmdDone s)
    | .hdrWrite (b :: rest) => (outPush s b).map fun t => moveTo t q (.hdrWrite rest)
    | _ => some (hdrWriteStart s)

/-- HDR_WRITE (`44_encoder.md` R251). -/
def execHdrWrite (s : State) : Result := .next ((hdrWriteStep s).getD s)

/-- The padding count for `t` = TBITS mod 8 (`44_encoder.md` R261). -/
def padCount (padmode : Bool) (t : Nat) : Nat := if padmode then 8 - t else (8 - t) % 8

/-- The start of ENCODE: the precondition checks, then PAD and DCOUNT (`44_encoder.md` R259, R260). -/
def encodeStart (s : State) : State :=
  if !s.ctValid then cmdFail s .noTable 0
  else if s.inRemain.setWidth 40 ≠ s.symcnt then cmdFail s .len s.inRemain
  else
    let p := BitVec.ofNat 8 (padCount s.ctrl.padmode (s.tbits.toNat % 8))
    enter { s with pad := p, dcount := 0 } 0x6#32 (.encHeader { p := p, left := s.inRemain.toNat, acc := [], nbits := 0 })

/-- `AppendBit(b)`: the eighth bit pushes the byte and empties the accumulator (`44_encoder.md` R262, log 20). -/
def appendBit (s : State) (acc : List Bool) (b : Bool) : Option (State × List Bool) :=
  let acc' := acc ++ [b]
  if acc'.length = 8 then (outPush s (packByte acc')).map fun t => (t, []) else some (s, acc')

/-- The head of the symbol loop: take a symbol, or after the last one compare `nbits` with TBITS
(`44_encoder.md` R260, R266). -/
def encSymbolStep (s : State) (q : Seq) (l : EncLocals) : Option State :=
  if l.left = 0 then
    if l.nbits ≠ s.tbits.toNat then some (cmdFail s .mismatch (BitVec.ofNat 32 l.nbits))
    else some (moveTo s q (.encPad l l.p.toNat))
  else inByte s q fun b => .encLookup { l with left := l.left - 1 } b

/-- A symbol taken: its code is looked up (`44_encoder.md` R260, R264). -/
def encLookupStep (s : State) (q : Seq) (l : EncLocals) (sym : Byte) : State :=
  let len := (codeAt s.ct sym).len
  if len = 0 then cmdFail s .sym (zext32 sym) else moveTo s q (.encBits l sym len.toNat)

/-- The bits of one code, CODE[CL - 1] first; after the last one DCOUNT counts the symbol (`44_encoder.md` R260). -/
def encBitsStep (s : State) (q : Seq) (l : EncLocals) (sym : Byte) (i : Nat) : Option State :=
  match i with
  | 0 => some (moveTo { s with dcount := s.dcount + 1 } q (.encSymbol l))
  | k + 1 =>
    (appendBit s l.acc ((codeAt s.ct sym).code.getLsbD k)).map fun (t, acc) =>
      moveTo t q (.encBits { l with acc := acc, nbits := l.nbits + 1 } sym k)

/-- The zero padding bits, then `done` (`44_encoder.md` R260). -/
def encPadStep (s : State) (q : Seq) (l : EncLocals) (k : Nat) : Option State :=
  match k with
  | 0 => some (cmdDone s)
  | m + 1 => (appendBit s l.acc false).map fun (t, acc) => moveTo t q (.encPad { l with acc := acc } m)

/-- One step of ENCODE from its position (`44_encoder.md` R260). -/
def encodeStep (s : State) : Option State :=
  match s.seq with
  | none => some (encodeStart s)
  | some q =>
    match q.pos with
    | .encHeader l => (outPush s l.p).map fun t => moveTo t q (.encSymbol l)
    | .encSymbol l => encSymbolStep s q l
    | .encLookup l sym => some (encLookupStep s q l sym)
    | .encBits l sym i => encBitsStep s q l sym i
    | .encPad l k => encPadStep s q l k
    | _ => some (encodeStart s)

/-- ENCODE (`44_encoder.md` R260). -/
def execEncode (s : State) : Result := .next ((encodeStep s).getD s)

end Sys2Proof.Machine
end

