-- ==== Sys2Proof/Machine/Generator.lean ====
section
/-! DEFINITION. The code-table generator, GEN (`43_code_table.md` R230 to R243). -/

namespace Sys2Proof.Machine

/-- An entry of the walk's stack: arena index, path value, path length (`43_code_table.md` R232). -/
structure WalkItem where
  ix    : NodeIx
  value : Nat
  depth : Nat
  deriving DecidableEq, Repr

/-- The explicit-stack walk, at most `fuel` pops; a tree of the arena takes at most 511 (`43_code_table.md` R232, R236;
log 11). -/
def codeWalk (fuel : Nat) (arena : Vector Node 511) (stack : List WalkItem) (ct : Vector CodeEntry 256) :
    Vector CodeEntry 256 :=
  match fuel, stack with
  | 0, _ => ct
  | _, [] => ct
  | k + 1, it :: rest =>
    let n := nodeAt arena it.ix
    if n.leaf then
      codeWalk k arena rest (codeSet ct n.sym { len := BitVec.ofNat 8 it.depth, code := BitVec.ofNat 256 it.value })
    else
      codeWalk k arena
        ({ ix := n.left, value := 2 * it.value, depth := it.depth + 1 }
          :: { ix := n.right, value := 2 * it.value + 1, depth := it.depth + 1 } :: rest) ct

/-- The empty code table: every CL and CODE 0 (`43_code_table.md` R232). -/
def emptyCodes : Vector CodeEntry 256 := Vector.replicate 256 { len := 0, code := 0 }

/-- The code table of the tree at `root`; a single leaf gets the code "0" (`43_code_table.md` R232, R235). -/
def codesOf (arena : Vector Node 511) (root : NodeIx) : Vector CodeEntry 256 :=
  let r := nodeAt arena root
  if r.leaf then codeSet emptyCodes r.sym { len := 1, code := 0 }
  else codeWalk 511 arena [{ ix := root, value := 0, depth := 0 }] emptyCodes

/-- TBITS = Σ w · CL over the leaves, indices 0 to NSYM - 1 (`43_code_table.md` R232, R238). -/
def totalBits (arena : Vector Node 511) (ct : Vector CodeEntry 256) (nsym : Nat) : Nat :=
  ((List.range nsym).map fun i =>
    let n := nodeAt arena (Fin.ofNat 511 i)
    n.w.toNat * (codeAt ct n.sym).len.toNat).sum

/-- MAXLEN, the largest CL (`43_code_table.md` R232). -/
def maxLength (ct : Vector CodeEntry 256) : Byte :=
  BitVec.ofNat 8 (ct.toList.foldl (fun m e => max m e.len.toNat) 0)

/-- GEN with a valid tree (`43_code_table.md` R232, R237). -/
def genCodes (s : State) : State :=
  let ct := codesOf s.arena s.root
  { s with
    ct := ct, tbits := BitVec.ofNat 48 (totalBits s.arena ct s.nsym.toNat), maxlen := maxLength ct, ctValid := true }

/-- GEN from its start to its end (`43_code_table.md` R230, R232). -/
def genStep (s : State) : State :=
  if s.treeValid then cmdDone (genCodes s) else cmdFail s .noTree 0

/-- GEN (`43_code_table.md` R232). -/
def execGen (s : State) : Result := .next (genStep s)

end Sys2Proof.Machine
end

