-- ==== Sys2Proof/Machine/Dispatch.lean ====
section
/-! DEFINITION. One arm per instruction: commands are engine steps, bus operations host steps (`00_scope.md` R6). -/

namespace Sys2Proof.Machine

def exec (i : Instr) (s : State) : Host.Outcome State Fault Refusal :=
  match i with
  | .nop => Sys2Proof.Machine.execNop s
  | .ftClear => Sys2Proof.Machine.execFtClear s
  | .build => Sys2Proof.Machine.execBuild s
  | .gen => Sys2Proof.Machine.execGen s
  | .hdrWrite => Sys2Proof.Machine.execHdrWrite s
  | .hdrParse => Sys2Proof.Machine.execHdrParse s
  | .encode => Sys2Proof.Machine.execEncode s
  | .decode => Sys2Proof.Machine.execDecode s
  | .flush => Sys2Proof.Machine.execFlush s
  | .illegalCmd word => Sys2Proof.Machine.execIllegalCmd word s
  | .rdId => Sys2Proof.Machine.execRdId s
  | .wrId data => Sys2Proof.Machine.execWrId data s
  | .rdVersion => Sys2Proof.Machine.execRdVersion s
  | .wrVersion data => Sys2Proof.Machine.execWrVersion data s
  | .rdCtrl => Sys2Proof.Machine.execRdCtrl s
  | .wrCtrl data => Sys2Proof.Machine.execWrCtrl data s
  | .rdStatus => Sys2Proof.Machine.execRdStatus s
  | .wrStatus data => Sys2Proof.Machine.execWrStatus data s
  | .rdErrcode => Sys2Proof.Machine.execRdErrcode s
  | .wrErrcode data => Sys2Proof.Machine.execWrErrcode data s
  | .rdErrinfo => Sys2Proof.Machine.execRdErrinfo s
  | .wrErrinfo data => Sys2Proof.Machine.execWrErrinfo data s
  | .rdCmd => Sys2Proof.Machine.execRdCmd s
  | .wrCmd data => Sys2Proof.Machine.execWrCmd data s
  | .rdAck => Sys2Proof.Machine.execRdAck s
  | .wrAck data => Sys2Proof.Machine.execWrAck data s
  | .rdInData => Sys2Proof.Machine.execRdInData s
  | .wrInData data => Sys2Proof.Machine.execWrInData data s
  | .rdOutData => Sys2Proof.Machine.execRdOutData s
  | .wrOutData data => Sys2Proof.Machine.execWrOutData data s
  | .rdInRemain => Sys2Proof.Machine.execRdInRemain s
  | .wrInRemain data => Sys2Proof.Machine.execWrInRemain data s
  | .rdInLevel => Sys2Proof.Machine.execRdInLevel s
  | .wrInLevel data => Sys2Proof.Machine.execWrInLevel data s
  | .rdOutLevel => Sys2Proof.Machine.execRdOutLevel s
  | .wrOutLevel data => Sys2Proof.Machine.execWrOutLevel data s
  | .rdNsym => Sys2Proof.Machine.execRdNsym s
  | .wrNsym data => Sys2Proof.Machine.execWrNsym data s
  | .rdRoot => Sys2Proof.Machine.execRdRoot s
  | .wrRoot data => Sys2Proof.Machine.execWrRoot data s
  | .rdSymcntLo => Sys2Proof.Machine.execRdSymcntLo s
  | .wrSymcntLo data => Sys2Proof.Machine.execWrSymcntLo data s
  | .rdSymcntHi => Sys2Proof.Machine.execRdSymcntHi s
  | .wrSymcntHi data => Sys2Proof.Machine.execWrSymcntHi data s
  | .rdTbitsLo => Sys2Proof.Machine.execRdTbitsLo s
  | .wrTbitsLo data => Sys2Proof.Machine.execWrTbitsLo data s
  | .rdTbitsHi => Sys2Proof.Machine.execRdTbitsHi s
  | .wrTbitsHi data => Sys2Proof.Machine.execWrTbitsHi data s
  | .rdMaxlen => Sys2Proof.Machine.execRdMaxlen s
  | .wrMaxlen data => Sys2Proof.Machine.execWrMaxlen data s
  | .rdPad => Sys2Proof.Machine.execRdPad s
  | .wrPad data => Sys2Proof.Machine.execWrPad data s
  | .rdDcountLo => Sys2Proof.Machine.execRdDcountLo s
  | .wrDcountLo data => Sys2Proof.Machine.execWrDcountLo data s
  | .rdDcountHi => Sys2Proof.Machine.execRdDcountHi s
  | .wrDcountHi data => Sys2Proof.Machine.execWrDcountHi data s
  | .rdCtSel => Sys2Proof.Machine.execRdCtSel s
  | .wrCtSel data => Sys2Proof.Machine.execWrCtSel data s
  | .rdCtLen => Sys2Proof.Machine.execRdCtLen s
  | .wrCtLen data => Sys2Proof.Machine.execWrCtLen data s
  | .rdCtCode0 => Sys2Proof.Machine.execRdCtCode0 s
  | .wrCtCode0 data => Sys2Proof.Machine.execWrCtCode0 data s
  | .rdCtCode1 => Sys2Proof.Machine.execRdCtCode1 s
  | .wrCtCode1 data => Sys2Proof.Machine.execWrCtCode1 data s
  | .rdCtCode2 => Sys2Proof.Machine.execRdCtCode2 s
  | .wrCtCode2 data => Sys2Proof.Machine.execWrCtCode2 data s
  | .rdCtCode3 => Sys2Proof.Machine.execRdCtCode3 s
  | .wrCtCode3 data => Sys2Proof.Machine.execWrCtCode3 data s
  | .rdCtCode4 => Sys2Proof.Machine.execRdCtCode4 s
  | .wrCtCode4 data => Sys2Proof.Machine.execWrCtCode4 data s
  | .rdCtCode5 => Sys2Proof.Machine.execRdCtCode5 s
  | .wrCtCode5 data => Sys2Proof.Machine.execWrCtCode5 data s
  | .rdCtCode6 => Sys2Proof.Machine.execRdCtCode6 s
  | .wrCtCode6 data => Sys2Proof.Machine.execWrCtCode6 data s
  | .rdCtCode7 => Sys2Proof.Machine.execRdCtCode7 s
  | .wrCtCode7 data => Sys2Proof.Machine.execWrCtCode7 data s
  | .rdNdSel => Sys2Proof.Machine.execRdNdSel s
  | .wrNdSel data => Sys2Proof.Machine.execWrNdSel data s
  | .rdNdInfo => Sys2Proof.Machine.execRdNdInfo s
  | .wrNdInfo data => Sys2Proof.Machine.execWrNdInfo data s
  | .rdNdChild => Sys2Proof.Machine.execRdNdChild s
  | .wrNdChild data => Sys2Proof.Machine.execWrNdChild data s
  | .rdNdWLo => Sys2Proof.Machine.execRdNdWLo s
  | .wrNdWLo data => Sys2Proof.Machine.execWrNdWLo data s
  | .rdNdWHi => Sys2Proof.Machine.execRdNdWHi s
  | .wrNdWHi data => Sys2Proof.Machine.execWrNdWHi data s
  | .rdFt sym => Sys2Proof.Machine.execRdFt sym s
  | .wrFt sym data => Sys2Proof.Machine.execWrFt sym data s
  | .rdReservedHigh off => Sys2Proof.Machine.execRdReservedHigh off s
  | .rdReservedLow off => Sys2Proof.Machine.execRdReservedLow off s
  | .wrReservedHigh off data => Sys2Proof.Machine.execWrReservedHigh off data s
  | .wrReservedLow off data => Sys2Proof.Machine.execWrReservedLow off data s

end Sys2Proof.Machine
end

