-- ==== Sys2Proof/Machine/Fetch.lean ====
section
/-! DEFINITION. Which agent moves, and what it runs: the next input of the host, or the accepted command of the engine
(`00_scope.md` R6, `20_memory.md` R88, `41_control_commands.md` R191). -/

namespace Sys2Proof.Machine

/-- What the agent to move does: run an instruction from a state, or reach a state without one, or stop. -/
inductive Fetched where
  | run (i : Instr) (s : State)
  | still (s : State)
  | refused (r : Refusal)
  deriving DecidableEq, Repr

/-- The engine has a step to take: a command runs and does not wait (`00_scope.md` R15, R16, `20_memory.md` R88). -/
def engineReady (s : State) : Bool :=
  match s.seq with
  | none => false
  | some q =>
    match decodeCmd q.word with
    | .hdrWrite => (hdrWriteStep s).isSome
    | .hdrParse => (hdrParseStep s).isSome
    | .encode => (encodeStep s).isSome
    | .decode => (decodeStep s).isSome
    | _ => true

/-- The agent to move: the schedule's next, or, when none is scheduled, the engine if it can move, else the host (log 1). -/
def nextAgent (s : State) : Agent :=
  match s.sched with
  | a :: _ => a
  | [] => if engineReady s then .engine else .host

/-- The state after its schedule's first entry is used (log 1). -/
def tick (s : State) : State := { s with sched := s.sched.tail }

/-- A bus access: refused during reset and outside the window, else the operation of the register it reaches
(`70_reset_and_hazards.md` R340, `00_scope.md` R19, `20_memory.md` R85, R87; log 13, log 14). -/
def fetchAccess (s : State) (a : Access) : Fetched :=
  if !s.rstN then .refused .accessInReset
  else
    match windowOffset s.params a.addr with
    | none => .refused .outsideWindow
    | some off => .run (decodeBus { write := a.write, off := off, strobe := a.strobe, data := a.data }) s

/-- The level of `rst_n`: asserted it performs the hard reset (`70_reset_and_hazards.md` R340; log 13). -/
def setResetPin (s : State) (level : Bool) : State :=
  if level then { s with rstN := true } else { hardReset s with rstN := false }

/-- The host's next input, or nothing (log 2, log 3). -/
def fetchHost (s : State) : Fetched :=
  match s.inputs with
  | [] => .still s
  | .access a :: rest => fetchAccess { s with inputs := rest } a
  | .resetPin level :: rest => .still (setResetPin { s with inputs := rest } level)

/-- The accepted command, or nothing (`41_control_commands.md` R191; log 3). -/
def fetchEngine (s : State) : Fetched :=
  match s.seq with
  | none => .still s
  | some q => if s.rstN then .run (decodeCmd q.word) s else .still s

/-- What the agent to move does. -/
def fetch (s : State) : Fetched :=
  match nextAgent s with
  | .host => fetchHost (tick s)
  | .engine => fetchEngine (tick s)

end Sys2Proof.Machine
end

