-- ==== Sys2Proof/Machine/Step.lean ====
section
/-! DEFINITION. One step of the machine: the step of one agent (`20_memory.md` R88). -/

namespace Sys2Proof.Machine

/-- One step: the agent to move runs its instruction, or holds, or stops. -/
def step (s : State) : Host.Outcome State Fault Refusal :=
  match fetch s with
  | .run i t => exec i t
  | .still t => .next t
  | .refused r => .refused r

/-- The machine of any parameters: HCE_BASE and both depths as an argument (`00_scope.md` R8; log 7). -/
def coreWith (p : Params) : Host.Core :=
  { State := State, Fault := Fault, Refusal := Refusal, step := step, reset := State.resetWith p }

/-- The next input of the host becomes `a`, and the host moves next. -/
def State.withAccess (s : State) (a : Access) : State :=
  { s with inputs := .access a :: s.inputs, sched := .host :: s.sched, rstN := true }

/-- The accepted command becomes `w`, at its start, and the engine moves next. -/
def State.withCommand (s : State) (w : Word) : State :=
  { s with seq := some { word := w, consumed := 0, pos := .start }, sched := .engine :: s.sched, rstN := true }

/-- The code `c` placed where the agent that runs it takes its next instruction. -/
def State.withCode (s : State) (c : Code) : State :=
  match c with
  | .cmd w => s.withCommand w
  | .bus b =>
    s.withAccess { addr := .window b.off, write := b.write, strobe := b.strobe, data := b.data }

/-- The table word placed so that the very next step runs it: a command word as the accepted command, a bus operation as
the host's next access (log 12, log 16). A word the decoder rejects changes nothing. -/
def State.withFetchWord (s : State) (nbits w : Nat) : State :=
  match readCode (tableBytes nbits w) with
  | .ok c => s.withCode c
  | .error _ => s

end Sys2Proof.Machine
end

