-- ==== Sys2Proof/Safety.lean ====
section
/-! DEFINITION. What claims speak of: a step that goes on, a command run step by step, and the invariants of the machine. -/

namespace Sys2Proof.Machine

/-- The step reaches a next state: no fault, no refusal. -/
def SafeStep (s : State) : Prop := ∃ t, step s = .next t

/-- `n` engine steps of the command `i`, one after the other. -/
def execN (i : Instr) (n : Nat) (s : State) : Result :=
  match n with
  | 0 => .next s
  | k + 1 =>
    match exec i s with
    | .next t => execN i k t
    | .fault r => .fault r
    | .refused r => .refused r

/-- The running command is accepted and not begun: the state a CMD write of `w` leaves (`41_control_commands.md` R190). -/
def State.accepted (s : State) (w : Word) : Prop := s.seq = some { word := w, consumed := 0, pos := .start }

/-- The running command, if any, stands at position `p` with `consumed` bytes taken. -/
def State.atPos (s : State) (w : Word) (consumed : BitVec 32) (p : Pos) : Prop :=
  s.seq = some { word := w, consumed := consumed, pos := p }

/-- The state after `fail(code, info)` (`60_exceptions.md` R312). -/
def State.failed (s : State) (code : BitVec 8) (info : Word) : State :=
  { s with err := true, errcode := code, errinfo := info, seq := none, done := true }

/-- The state after `done` (`41_control_commands.md` R194). -/
def State.ended (s : State) : State := { s with seq := none, done := true }

/-- The state after a dropped write (`10_state.md` R30). -/
def State.dropped (s : State) : State := { s with wdrop := true }

/-- The state after command `w`, which had taken `consumed` bytes, has taken the oldest byte, `rest` remaining, and moved on
to position `p` (`00_scope.md` R15). -/
def State.took (s : State) (rest : List Byte) (w : Word) (consumed : BitVec 32) (p : Pos) : State :=
  { s with inFifo := rest, inRemain := s.inRemain - 1, seq := some { word := w, consumed := consumed + 1, pos := p } }

/-- The state after command `w` has moved on to position `p`. -/
def State.movedTo (s : State) (w : Word) (consumed : BitVec 32) (p : Pos) : State :=
  { s with seq := some { word := w, consumed := consumed, pos := p } }

/-- There is room in the output FIFO (`00_scope.md` R16). -/
def State.room (s : State) : Prop := s.outFifo.length < s.params.ofifoDepth

/-- The writes that change nothing: to read-only registers and reserved offsets (`40_host_access.md` R167). -/
def ignoredWrite (i : Instr) : Bool :=
  match i with
  | .wrId _ | .wrVersion _ | .wrStatus _ | .wrErrcode _ | .wrErrinfo _ | .wrOutData _ | .wrInLevel _ | .wrOutLevel _
  | .wrNsym _ | .wrRoot _ | .wrSymcntLo _ | .wrSymcntHi _ | .wrTbitsLo _ | .wrTbitsHi _ | .wrMaxlen _ | .wrPad _
  | .wrDcountLo _ | .wrDcountHi _ | .wrCtLen _ | .wrCtCode0 _ | .wrCtCode1 _ | .wrCtCode2 _ | .wrCtCode3 _
  | .wrCtCode4 _ | .wrCtCode5 _ | .wrCtCode6 _ | .wrCtCode7 _ | .wrNdInfo _ | .wrNdChild _ | .wrNdWLo _ | .wrNdWHi _
  | .wrReservedHigh _ _ | .wrReservedLow _ _ => true
  | _ => false

/-- The bus reads. -/
def isRead (i : Instr) : Bool :=
  match encode i with
  | .cmd _ => false
  | .bus b => !b.write

/-- The reads that return an unspecified word while BUSY = 1, STATUS aside (`10_state.md` R60). -/
def busyUnspecified (i : Instr) : Bool :=
  match i with
  | .rdNsym | .rdRoot | .rdSymcntLo | .rdSymcntHi | .rdTbitsLo | .rdTbitsHi | .rdMaxlen | .rdPad | .rdDcountLo
  | .rdDcountHi | .rdCtLen | .rdCtCode0 | .rdCtCode1 | .rdCtCode2 | .rdCtCode3 | .rdCtCode4 | .rdCtCode5 | .rdCtCode6
  | .rdCtCode7 | .rdNdInfo | .rdNdChild | .rdNdWLo | .rdNdWHi | .rdFt _ => true
  | _ => false

/-- The bits of a code, first bit first: CODE[CL - 1] down to CODE[0] (`00_scope.md` R11). -/
def codeBits (e : CodeEntry) : List Bool := (List.range e.len.toNat).reverse.map e.code.getLsbD

/-- The node reached from `x` along a bit list, 0 to the left and 1 to the right (`43_code_table.md` R231). -/
def followBits (arena : Vector Node 511) (x : NodeIx) (bits : List Bool) : NodeIx :=
  bits.foldl (fun y b => if b then (nodeAt arena y).right else (nodeAt arena y).left) x

/-- The bit list leads from `root` to the leaf of `sym`, over internal nodes only (`43_code_table.md` R231). -/
def LeadsTo (arena : Vector Node 511) (root : NodeIx) (bits : List Bool) (sym : Byte) : Prop :=
  (∀ k, k < bits.length → (nodeAt arena (followBits arena root (bits.take k))).leaf = false) ∧
    (nodeAt arena (followBits arena root bits)).leaf = true ∧ (nodeAt arena (followBits arena root bits)).sym = sym

/-- A bit sequence packed into bytes, most significant bit first; a rest of fewer than 8 bits is left out
(`20_memory.md` R84). -/
def packBits (bits : List Bool) : List Byte :=
  match bits with
  | b0 :: b1 :: b2 :: b3 :: b4 :: b5 :: b6 :: b7 :: rest => packByte [b0, b1, b2, b3, b4, b5, b6, b7] :: packBits rest
  | _ => []

/-- The bounds and flags that hold of every reachable state. -/
structure State.Inv (s : State) : Prop where
  /-- both depths are at least 1 (`00_scope.md` R8) -/
  depths : 1 ≤ s.params.ififoDepth ∧ 1 ≤ s.params.ofifoDepth
  /-- `10_state.md` R53 -/
  inBound : s.inFifo.length ≤ s.params.ififoDepth
  /-- `10_state.md` R54 -/
  outBound : s.outFifo.length ≤ s.params.ofifoDepth
  /-- CT_VALID = 1 implies TREE_VALID = 1 (`10_state.md` R29) -/
  validOrder : s.ctValid = true → s.treeValid = true
  /-- both read 0 when ERR = 0 (`10_state.md` R32) -/
  errorClear : s.err = false → s.errcode = 0 ∧ s.errinfo = 0
  /-- no command runs while ERR or DONE is 1 (`60_exceptions.md` R319, `10_state.md` R27) -/
  busyClear : s.busy = true → s.err = false ∧ s.done = false
  /-- the HCE is idle while `rst_n` is asserted (`70_reset_and_hazards.md` R340) -/
  resetIdle : s.rstN = false → s.seq = none

/-- The positions of HDR_PARSE after its start. -/
def Pos.parsing (p : Pos) : Bool :=
  match p with
  | .parseHigh => true
  | .parseLow _ => true
  | .parseCheckN _ => true
  | .parseSymbol _ => true
  | .parseCount _ _ _ _ => true
  | .parseCheckRecord _ _ _ => true
  | _ => false

/-- The arena, ROOT, NSYM and SYMCNT are those of the current FT (`20_memory.md` R92, `42_tree_builder.md` R217). -/
structure State.TreeOfFt (s : State) : Prop where
  present : 1 ≤ presentCount s.ft
  root : s.root.val = 2 * presentCount s.ft - 2
  nsym : s.nsym.toNat = presentCount s.ft
  nodes : ∀ i : NodeIx, i.val ≤ s.root.val → (treeNodes s.ft)[i.val]? = some (nodeAt s.arena i)
  symcnt : s.symcnt = (nodeAt s.arena s.root).w

/-- The code table, TBITS and MAXLEN are those of the current tree (`20_memory.md` R92, `43_code_table.md` R237). -/
structure State.CodesOfTree (s : State) : Prop where
  codes : s.ct = codesOf s.arena s.root
  tbits : s.tbits = BitVec.ofNat 48 (totalBits s.arena s.ct s.nsym.toNat)
  maxlen : s.maxlen = maxLength s.ct

/-- A valid tree is the tree of the current FT, and a valid code table holds the codes of the current tree
(`20_memory.md` R92); HDR_PARSE past its start runs with both valid bits 0 (`45_decoder.md` R281). -/
structure State.Coherent (s : State) : Prop where
  validOrder : s.ctValid = true → s.treeValid = true
  tree : s.treeValid = true → s.TreeOfFt
  codes : s.ctValid = true → s.CodesOfTree
  parsing : ∀ q, s.seq = some q → decodeCmd q.word = .hdrParse → q.pos.parsing = true → s.treeValid = false

/-- The accumulator holds the bits appended since the last whole byte, and `p` is the padding of TBITS
(`44_encoder.md` R261, R262). -/
def EncLocals.aligned (s : State) (l : EncLocals) : Prop :=
  l.acc.length = l.nbits % 8 ∧ l.p.toNat = padCount s.ctrl.padmode (s.tbits.toNat % 8)

/-- Where a running ENCODE stands, its accumulator is aligned; among the padding bits, `k` more complete the byte
(`44_encoder.md` R263). -/
def State.EncoderAligned (s : State) : Prop :=
  ∀ q, s.seq = some q → decodeCmd q.word = .encode →
    match q.pos with
    | .encHeader l => l.aligned s
    | .encSymbol l => l.aligned s
    | .encLookup l _ => l.aligned s
    | .encBits l _ _ => l.aligned s
    | .encPad l k => l.acc.length < 8 ∧ (l.acc.length + k) % 8 = 0
    | _ => True

/-- Where a running DECODE stands, the bits it has still to use are those in hand and those of the budget
(`45_decoder.md` R286, R288, R293). -/
def State.DecoderBudget (s : State) : Prop :=
  ∀ q, s.seq = some q → decodeCmd q.word = .decode →
    match q.pos with
    | .decHeader len => s.inRemain = len
    | .decCheckPad len _ => len ≠ 0 ∧ s.inRemain = len - 1
    | .decWalk l => l.j ≤ l.e ∧ l.nb ≤ 8 ∧ l.nb + 8 * s.inRemain.toNat = (l.e - l.j) + l.p.toNat
    | .decPad l k _ => l.nb ≤ 8 ∧ l.nb + 8 * s.inRemain.toNat = k
    | _ => True

end Sys2Proof.Machine
end

