-- ==== Sys2Proof/Certificates/Slice0/Obligations.lean ====
section
/-! DEFINITION. The statements for the provers. Each docstring names the rule of `spec/` it formalises, or says that it rests
on the model's own choice and names the log entry. -/

open Sys2Proof Sys2Proof.Machine

/-! ### Encoding -/

/-- Decoding an encoded well-formed instruction gives it back, as a code and as a byte record (`30_encoding.md` §1, §2; the
byte record is the model's, log 12). -/
def Obligations.DecodeOfEncodeIsTheInstruction : Prop :=
  ∀ i : Instr, i.wellFormed = true → decodeCode (encode i) = i ∧ decodeBytes (encodeBytes i) = .instr i

/-- Every code decodes to a well-formed instruction (`30_encoding.md` R112, `40_host_access.md` R150). -/
def Obligations.DecodedInstructionsAreWellFormed : Prop := ∀ c : Code, (decodeCode c).wellFormed = true

/-- `30_encoding.md` R112: a command word selects a command exactly when it equals the opcode, and is illegal otherwise. -/
def Obligations.CommandWordSelectsByWholeWord : Prop :=
  ∀ w : Word,
    (decodeCmd w = .nop ↔ w = 0x00) ∧ (decodeCmd w = .ftClear ↔ w = 0x01) ∧ (decodeCmd w = .build ↔ w = 0x02) ∧
    (decodeCmd w = .gen ↔ w = 0x03) ∧ (decodeCmd w = .hdrWrite ↔ w = 0x04) ∧ (decodeCmd w = .hdrParse ↔ w = 0x05) ∧
    (decodeCmd w = .encode ↔ w = 0x06) ∧ (decodeCmd w = .decode ↔ w = 0x07) ∧ (decodeCmd w = .flush ↔ w = 0x08) ∧
    (decodeCmd w = .illegalCmd w ↔ (w.extractLsb' 8 24 ≠ 0 ∨ 0x08 < (w.extractLsb' 0 8).toNat))

/-- `20_memory.md` §3 (R85): offset bits 1:0 and byte strobes are ignored, and a read's data too. -/
def Obligations.LowAddressBitsAndStrobesAreIgnored : Prop :=
  ∀ (b : BusWord) (strobe : BitVec 4) (data : Word),
    decodeBus { b with strobe := strobe } = decodeBus b ∧ decodeBus { b with off := b.off &&& 0xFFC#12 } = decodeBus b ∧
    (b.write = false → decodeBus { b with data := data } = decodeBus b)

/-- Words of `30_encoding.md` R113 and offsets of `10_state.md` R20 decode to their instructions. -/
def Obligations.SpecWordsDecode : Prop :=
  decodeCmd 0x00000002#32 = .build ∧ decodeCmd 0x00000006#32 = .encode ∧ decodeCmd 0x00000102#32 = .illegalCmd 0x102#32 ∧
  decodeRead 0x00C#12 = .rdStatus ∧ decodeRead 0x024#12 = .rdOutData ∧ decodeRead 0x088#12 = .rdNdInfo ∧
  decodeWrite 0x008#12 0x3#32 = .wrCtrl 0x3#32 ∧ decodeWrite 0x504#12 0x5#32 = .wrFt 0x41#8 0x5#32 ∧
  decodeRead 0x098#12 = .rdReservedLow 0x098#12 ∧ decodeWrite 0xFFC#12 0#32 = .wrReservedHigh 0xFFC#12 0#32

/-! ### The step -/

/-- A step runs the decoded instruction: the host's next access while `rst_n` is deasserted, or the engine's accepted command
(`20_memory.md` §4, `41_control_commands.md` §1; the schedule and the input list are the model's, log 1, log 2). -/
def Obligations.StepRunsTheDecodedInstruction : Prop :=
  (∀ (s : State) (a : Access) (rest : List Input) (off : Offset),
    nextAgent s = .host → s.inputs = .access a :: rest → s.rstN = true →
    a.addr.toNat s.params = s.params.hceBase + off.toNat →
    step s = exec (decodeBus { write := a.write, off := off, strobe := a.strobe, data := a.data })
      { s with inputs := rest, sched := s.sched.tail }) ∧
  (∀ (s : State) (q : Seq), nextAgent s = .engine → s.seq = some q → s.rstN = true →
    step s = exec (decodeCmd q.word) { s with sched := s.sched.tail }) ∧
  (∀ (s : State) (a : Agent) (rest : List Agent), s.sched = a :: rest → nextAgent s = a)

/-- A step stops only by refusing an access during reset or outside the window (`70_reset_and_hazards.md` R340, `00_scope.md`
R19; log 13, log 14); every access of the window completes (`60_exceptions.md` R310) and nothing faults (`20_memory.md`
R85). -/
def Obligations.StepStopsOnlyInResetOrOutsideWindow : Prop :=
  (∀ s : State, s.rstN = true → (∀ a, .access a ∈ s.inputs →
    s.params.hceBase ≤ a.addr.toNat s.params ∧ a.addr.toNat s.params < s.params.hceBase + 4096) → SafeStep s) ∧
  (∀ (s : State) (a : Access) (rest : List Input), nextAgent s = .host → s.inputs = .access a :: rest →
    (s.rstN = false → step s = .refused .accessInReset) ∧
    (s.rstN = true →
      (a.addr.toNat s.params < s.params.hceBase ∨ s.params.hceBase + 4096 ≤ a.addr.toNat s.params) →
      step s = .refused .outsideWindow)) ∧
  (∀ (s : State) (f : Fault), step s ≠ .fault f)

/-- Every instruction answers a next state in every state: no bus access and no command stops the machine
(`60_exceptions.md` R310). -/
def Obligations.EveryInstructionAnswersANextState : Prop := ∀ (i : Instr) (s : State), ∃ t, exec i s = .next t

/-! ### Invariants -/

/-- The state after reset meets every invariant, at the default parameters and at any others with depths of at least 1
(`00_scope.md` R8, R9). -/
def Obligations.ResetMeetsTheInvariants : Prop :=
  (State.reset.Inv ∧ State.reset.Coherent ∧ State.reset.EncoderAligned ∧ State.reset.DecoderBudget) ∧
  ∀ p : Params, 1 ≤ p.ififoDepth → 1 ≤ p.ofifoDepth →
    (State.resetWith p).Inv ∧ (State.resetWith p).Coherent ∧ (State.resetWith p).EncoderAligned ∧
      (State.resetWith p).DecoderBudget

/-- Every step keeps the FIFO bounds, CT_VALID below TREE_VALID, ERRCODE and ERRINFO clear while ERR = 0, and no command
running while ERR or DONE is 1 (`10_state.md` R29, R32, R53, R54, `60_exceptions.md` R319). -/
def Obligations.StepKeepsBoundsAndFlags : Prop := ∀ s t : State, s.Inv → step s = .next t → t.Inv

/-- Every step keeps the tables coherent: a valid tree is the tree of the current FT, a valid code table holds the codes of
the current tree (`20_memory.md` R92). -/
def Obligations.StepKeepsTablesCoherent : Prop := ∀ s t : State, s.Coherent → step s = .next t → t.Coherent

/-- Every step keeps a running ENCODE byte-aligned (`44_encoder.md` R261 to R263). -/
def Obligations.StepKeepsEncoderAligned : Prop := ∀ s t : State, s.EncoderAligned → step s = .next t → t.EncoderAligned

/-- Every step keeps a running DECODE within its stream (`45_decoder.md` R286, R288, R293). -/
def Obligations.StepKeepsDecoderBudget : Prop := ∀ s t : State, s.DecoderBudget → step s = .next t → t.DecoderBudget

/-! ### Resets -/

/-- The values of `70_reset_and_hazards.md` R342 as the host reads them after a hard reset, whatever the parameters
(`00_scope.md` R8: the depths are at least 1). -/
def Obligations.ResetReadsAsSpecified : Prop :=
  ∀ p : Params, 1 ≤ p.ififoDepth → 1 ≤ p.ofifoDepth →
  (∀ i v, (i, v) ∈ [(Instr.rdId, 0x48434531#32), (.rdVersion, 1#32), (.rdCtrl, 4#32), (.rdStatus, 0xA0#32),
      (.rdErrcode, 0#32), (.rdErrinfo, 0#32), (.rdOutData, 0#32), (.rdInRemain, 0#32), (.rdInLevel, 0#32),
      (.rdOutLevel, 0#32), (.rdNsym, 0#32), (.rdRoot, 0#32), (.rdSymcntLo, 0#32), (.rdSymcntHi, 0#32),
      (.rdTbitsLo, 0#32), (.rdTbitsHi, 0#32), (.rdMaxlen, 0#32), (.rdPad, 0#32), (.rdDcountLo, 0#32),
      (.rdDcountHi, 0#32), (.rdCtSel, 0#32), (.rdCtLen, 0#32), (.rdCtCode0, 0#32), (.rdCtCode1, 0#32), (.rdCtCode2, 0#32),
      (.rdCtCode3, 0#32), (.rdCtCode4, 0#32), (.rdCtCode5, 0#32), (.rdCtCode6, 0#32), (.rdCtCode7, 0#32),
      (.rdNdSel, 0#32), (.rdNdInfo, 0#32), (.rdNdChild, 0#32), (.rdNdWLo, 0#32), (.rdNdWHi, 0#32)] →
    ∃ t, exec i (State.resetWith p) = .next t ∧ t.rdata = v) ∧
  (State.resetWith p).irq = false ∧ (State.resetWith p).seq = none

/-- `70_reset_and_hazards.md` R343: a CTRL write with SRST. The FT is kept unless the reset aborts FT_CLEAR or HDR_PARSE;
SRST reads 0. -/
def Obligations.SoftResetClearsAllButFtAndConfiguration : Prop :=
  (∀ s : State, ∃ t, exec .rdCtrl s = .next t ∧ t.rdata.getLsbD 0 = false) ∧
  ∀ (s : State) (d : Word), d.getLsbD 0 = true →
    ∃ t, exec (.wrCtrl d) s = .next t ∧
      t.busy = false ∧ t.err = false ∧ t.done = false ∧ t.wdrop = false ∧ t.errcode = 0 ∧ t.errinfo = 0 ∧
      t.inFifo = [] ∧ t.outFifo = [] ∧ t.inRemain = 0 ∧ t.treeValid = false ∧ t.ctValid = false ∧ t.nsym = 0 ∧
      t.root = 0 ∧ t.symcnt = 0 ∧ t.tbits = 0 ∧ t.maxlen = 0 ∧ t.pad = 0 ∧ t.dcount = 0 ∧ t.ctSel = 0 ∧ t.ndSel = 0 ∧
      t.ctrl = { padmode := d.getLsbD 1, cntchk := d.getLsbD 2, padchk := d.getLsbD 3, ie := d.getLsbD 4 } ∧
      ((∀ q, s.seq = some q → decodeCmd q.word ≠ .ftClear ∧ decodeCmd q.word ≠ .hdrParse) → t.ft = s.ft) ∧
      t.params = s.params

/-- `70_reset_and_hazards.md` R340, R341, R344: asserting `rst_n` performs the hard reset, the FT free, and a soft reset that
aborts FT_CLEAR or HDR_PARSE leaves the FT free (the pin as an input is the model's, log 13; the free values log 5). The
read-data port keeps its value over both resets, the model's choice (log 15), and a soft reset leaves the pin, the inputs
and the schedule (log 13, log 2, log 1). -/
def Obligations.ResetPinAndAbortsFreeTheTable : Prop :=
  (∀ (s : State) (d : Word) (q : Seq), d.getLsbD 0 = true → s.seq = some q →
    (decodeCmd q.word = .ftClear ∨ decodeCmd q.word = .hdrParse) →
    ∃ t, exec (.wrCtrl d) s = .next t ∧ t.seq = none ∧ t.draws = s.draws + 1 ∧
      ∀ sym, ftGet t.ft sym = Config.freeFt s.draws sym.toNat) ∧
  (∀ (s : State) (d : Word), d.getLsbD 0 = true →
    ∃ t, exec (.wrCtrl d) s = .next t ∧ t.rdata = s.rdata ∧ t.rstN = s.rstN ∧ t.inputs = s.inputs ∧ t.sched = s.sched) ∧
  ∀ (s : State) (rest : List Input), nextAgent s = .host → s.inputs = .resetPin false :: rest →
    ∃ t n, step s = .next t ∧ t.rstN = false ∧ t.busy = false ∧ t.err = false ∧ t.done = false ∧ t.wdrop = false ∧
      t.errcode = 0 ∧ t.errinfo = 0 ∧ t.inFifo = [] ∧ t.outFifo = [] ∧ t.inRemain = 0 ∧ t.treeValid = false ∧
      t.ctValid = false ∧ t.nsym = 0 ∧ t.root = 0 ∧ t.symcnt = 0 ∧ t.tbits = 0 ∧ t.maxlen = 0 ∧ t.pad = 0 ∧
      t.dcount = 0 ∧ t.ctSel = 0 ∧ t.ndSel = 0 ∧
      t.ctrl = { padmode := false, cntchk := true, padchk := false, ie := false } ∧
      s.draws ≤ n ∧ n < t.draws ∧ (∀ sym, ftGet t.ft sym = Config.freeFt n sym.toNat) ∧ t.inputs = rest ∧
      t.params = s.params ∧ t.rdata = s.rdata

/-! ### Bus writes -/

/-- `40_host_access.md` R160, and R153 without SRST: the budget is read and written, the configuration is written; a write
while BUSY = 1 is dropped. -/
def Obligations.CtrlAndBudgetWritesLoadOrDrop : Prop :=
  (∀ (s : State) (d : Word), d.getLsbD 0 = false →
    exec (.wrCtrl d) s = .next (if s.busy then s.dropped else
      { s with ctrl :=
        { padmode := d.getLsbD 1, cntchk := d.getLsbD 2, padchk := d.getLsbD 3, ie := d.getLsbD 4 } })) ∧
  (∀ (s : State) (d : Word), decodeWrite 0x028 d = .wrInRemain d ∧ decodeRead 0x028 = .rdInRemain ∧
    exec .rdInRemain s = .next { s with rdata := s.inRemain } ∧
    exec (.wrInRemain d) s = .next (if s.busy then s.dropped else { s with inRemain := d }))

/-- `40_host_access.md` R168, the write acceptance table: what is dropped sets WDROP and nothing else, what is accepted does
not set WDROP and has its effect. -/
def Obligations.WriteAcceptanceTable : Prop :=
  (∀ (s : State) (d : Word), (s.busy = true ∨ s.err = true) → exec (.wrCmd d) s = .next s.dropped) ∧
  (∀ (s : State) (d : Word), s.busy = false → s.err = false →
    ∃ t, exec (.wrCmd d) s = .next t ∧ t.wdrop = s.wdrop ∧ (t.busy = true ∨ (t.err = true ∧ t.done = true))) ∧
  (∀ (s : State) (d : Word), d.getLsbD 0 = true →
    ∃ t, exec (.wrCtrl d) s = .next t ∧ t.wdrop = false ∧ t.busy = false ∧ t.ctrl.ie = d.getLsbD 4) ∧
  (∀ (s : State) (d : Word), d.getLsbD 0 = false → s.busy = true → exec (.wrCtrl d) s = .next s.dropped) ∧
  (∀ (s : State) (d : Word), d.getLsbD 0 = false → s.busy = false →
    ∃ t, exec (.wrCtrl d) s = .next t ∧ t.wdrop = s.wdrop ∧ t.ctrl.padmode = d.getLsbD 1) ∧
  (∀ (s : State) (d : Word), s.busy = true → exec (.wrInRemain d) s = .next s.dropped) ∧
  (∀ (s : State) (d : Word), s.busy = false →
    ∃ t, exec (.wrInRemain d) s = .next t ∧ t.wdrop = s.wdrop ∧ t.inRemain = d) ∧
  (∀ (s : State) (sym : Byte) (d : Word), s.busy = true → exec (.wrFt sym d) s = .next s.dropped) ∧
  (∀ (s : State) (sym : Byte) (d : Word), s.busy = false →
    ∃ t, exec (.wrFt sym d) s = .next t ∧ t.wdrop = s.wdrop ∧ ftGet t.ft sym = d) ∧
  (∀ (s : State) (d : Word), s.inFifo.length = s.params.ififoDepth → exec (.wrInData d) s = .next s.dropped) ∧
  (∀ (s : State) (d : Word), s.inFifo.length ≠ s.params.ififoDepth →
    ∃ t, exec (.wrInData d) s = .next t ∧ t.wdrop = s.wdrop ∧ t.inFifo = s.inFifo ++ [d.extractLsb' 0 8]) ∧
  (∀ (s : State) (d : Word), ∃ t u v, exec (.wrAck d) s = .next t ∧ exec (.wrCtSel d) s = .next u ∧
    exec (.wrNdSel d) s = .next v ∧ (t.wdrop = true → s.wdrop = true) ∧ (d.getLsbD 0 = true → t.done = false) ∧
    u.wdrop = s.wdrop ∧ u.ctSel = d.extractLsb' 0 8 ∧ v.wdrop = s.wdrop ∧ v.ndSel = d.extractLsb' 0 9)

/-- `41_control_commands.md` R190: acceptance of a command word (that an illegal word fails in the same step is the model's
reading, log 8). -/
def Obligations.CmdWriteAcceptsOrDrops : Prop :=
  ∀ (s : State) (w : Word), exec (.wrCmd w) s = .next (
    if s.busy ∨ s.err then s.dropped
    else if w.extractLsb' 8 24 ≠ 0 ∨ 0x08 < (w.extractLsb' 0 8).toNat then State.failed { s with done := false } 0x01 w
    else { s with done := false, seq := some { word := w, consumed := 0, pos := .start } })

/-- `40_host_access.md` R157: ACK clears the sticky bits named and, with ERR, the error registers. -/
def Obligations.AckClearsStickyBits : Prop :=
  ∀ (s : State) (d : Word), decodeWrite 0x01C d = .wrAck d ∧ ∃ t, exec (.wrAck d) s = .next t ∧
    t = { s with done := t.done, wdrop := t.wdrop, err := t.err, errcode := t.errcode, errinfo := t.errinfo } ∧
    t.done = (s.done && !d.getLsbD 0) ∧ t.wdrop = (s.wdrop && !d.getLsbD 1) ∧ t.err = (s.err && !d.getLsbD 2) ∧
    t.errcode = (if d.getLsbD 2 then 0 else s.errcode) ∧ t.errinfo = (if d.getLsbD 2 then 0 else s.errinfo)

/-- `40_host_access.md` R158: an IN_DATA write appends its low byte, or is dropped when the FIFO is full. -/
def Obligations.InDataWritePushesOrDrops : Prop :=
  ∀ (s : State) (d : Word), decodeWrite 0x020 d = .wrInData d ∧ exec (.wrInData d) s = .next (
    if s.inFifo.length = s.params.ififoDepth then s.dropped else { s with inFifo := s.inFifo ++ [d.extractLsb' 0 8] })

/-- `40_host_access.md` R163, `10_state.md` R45: an FT write sets the entry and clears both valid bits, or is dropped. -/
def Obligations.FtWriteSetsCountAndClearsValidBits : Prop :=
  ∀ (s : State) (sym : Byte) (d : Word), decodeWrite (ftOffset sym) d = .wrFt sym d ∧
    (s.busy = true → exec (.wrFt sym d) s = .next s.dropped) ∧
    (s.busy = false → ∃ t, exec (.wrFt sym d) s = .next t ∧
      t = { s with ft := t.ft, treeValid := false, ctValid := false } ∧ ftGet t.ft sym = d ∧
      ∀ other, other ≠ sym → ftGet t.ft other = ftGet s.ft other)

/-- `40_host_access.md` R165, R166 (their writes): the selectors are loaded from the low bits, whether BUSY or not. -/
def Obligations.SelectorWritesLoadLowBits : Prop :=
  ∀ (s : State) (d : Word), exec (.wrCtSel d) s = .next { s with ctSel := d.extractLsb' 0 8 } ∧
    exec (.wrNdSel d) s = .next { s with ndSel := d.extractLsb' 0 9 }

/-- `40_host_access.md` R167, R156: a write to a read-only register or a reserved offset changes nothing, a read of a reserved
offset or of a write-only register returns 0 (that it does so while BUSY = 1 too is the model's reading, log 25). -/
def Obligations.ReadOnlyAndReservedWritesChangeNothing : Prop :=
  (∀ (i : Instr) (s : State), ignoredWrite i = true → exec i s = .next s) ∧
  (∀ (off : Offset) (s : State), exec (.rdReservedHigh off) s = .next { s with rdata := 0 } ∧
    exec (.rdReservedLow off) s = .next { s with rdata := 0 } ∧ exec .rdCmd s = .next { s with rdata := 0 } ∧
    exec .rdAck s = .next { s with rdata := 0 } ∧ exec .rdInData s = .next { s with rdata := 0 })

/-! ### Bus reads -/

/-- `40_host_access.md` R152, R154, `10_state.md` R31: CTRL and STATUS bit by bit; while BUSY = 1 STATUS bits 3 and 4 are free
(`10_state.md` R60; log 21). -/
def Obligations.CtrlAndStatusReadTheirBits : Prop :=
  (∀ s : State, ∃ t, exec .rdCtrl s = .next t ∧ t = { s with rdata := t.rdata } ∧
    t.rdata = (0#27 ++ BitVec.ofBool s.ctrl.ie ++ BitVec.ofBool s.ctrl.padchk ++ BitVec.ofBool s.ctrl.cntchk ++
      BitVec.ofBool s.ctrl.padmode ++ 0#1)) ∧
  (∀ s : State, ∃ t, exec .rdStatus s = .next t ∧ t = { s with rdata := t.rdata, draws := t.draws } ∧
    t.rdata.getLsbD 0 = s.busy ∧ t.rdata.getLsbD 1 = s.err ∧ t.rdata.getLsbD 2 = s.done ∧
    (s.busy = false → t.rdata.getLsbD 3 = s.treeValid ∧ t.rdata.getLsbD 4 = s.ctValid ∧ t.draws = s.draws) ∧
    (s.busy = true → t.rdata.getLsbD 3 = (Config.freeWord s.draws).getLsbD 3 ∧
      t.rdata.getLsbD 4 = (Config.freeWord s.draws).getLsbD 4 ∧ t.draws = s.draws + 1) ∧
    t.rdata.getLsbD 5 = decide (s.inFifo.length = 0) ∧
    t.rdata.getLsbD 6 = decide (s.inFifo.length = s.params.ififoDepth) ∧
    t.rdata.getLsbD 7 = decide (s.outFifo.length = 0) ∧
    t.rdata.getLsbD 8 = decide (s.outFifo.length = s.params.ofifoDepth) ∧ t.rdata.getLsbD 9 = s.wdrop ∧
    t.rdata.getLsbD 10 = (s.ctrl.ie && (s.done || s.err)) ∧ ∀ k, 11 ≤ k → t.rdata.getLsbD k = false)

/-- `40_host_access.md` R151, R155, R161, and the selector reads of R165 and R166: registers readable at any time. ERRCODE and
ERRINFO read 0 while ERR = 0 in every state of the invariant. -/
def Obligations.RegistersReadableAtAnyTime : Prop :=
  ∀ s : State,
    (decodeRead 0x000 = .rdId ∧ exec .rdId s = .next { s with rdata := 0x48434531 }) ∧
    (decodeRead 0x004 = .rdVersion ∧ exec .rdVersion s = .next { s with rdata := 1 }) ∧
    (decodeRead 0x010 = .rdErrcode ∧ exec .rdErrcode s = .next { s with rdata := s.errcode.setWidth 32 }) ∧
    (decodeRead 0x014 = .rdErrinfo ∧ exec .rdErrinfo s = .next { s with rdata := s.errinfo }) ∧
    (s.Inv → s.err = false → exec .rdErrcode s = .next { s with rdata := 0 } ∧
      exec .rdErrinfo s = .next { s with rdata := 0 }) ∧
    (decodeRead 0x02C = .rdInLevel ∧ exec .rdInLevel s = .next { s with rdata := BitVec.ofNat 32 s.inFifo.length }) ∧
    (decodeRead 0x030 = .rdOutLevel ∧ exec .rdOutLevel s = .next { s with rdata := BitVec.ofNat 32 s.outFifo.length }) ∧
    exec .rdCtSel s = .next { s with rdata := s.ctSel.setWidth 32 } ∧
    exec .rdNdSel s = .next { s with rdata := s.ndSel.setWidth 32 }

/-- `40_host_access.md` R159, `10_state.md` R36: an OUT_DATA read pops the oldest byte with VALID set, or returns 0. -/
def Obligations.OutDataReadPopsOldestByte : Prop :=
  decodeRead 0x024 = .rdOutData ∧
  (∀ (s : State) (b : Byte) (rest : List Byte), s.outFifo = b :: rest →
    exec .rdOutData s = .next { s with outFifo := rest, rdata := 0#23 ++ 1#1 ++ b }) ∧
  (∀ s : State, s.outFifo = [] → exec .rdOutData s = .next { s with rdata := 0 })

/-- `40_host_access.md` R162, R164: the result registers and the FT window while BUSY = 0. -/
def Obligations.ResultAndFtReadsWhileIdle : Prop :=
  ∀ s : State, s.busy = false →
    exec .rdNsym s = .next { s with rdata := s.nsym.setWidth 32 } ∧
    exec .rdRoot s = .next { s with rdata := BitVec.ofNat 32 s.root.val } ∧
    exec .rdSymcntLo s = .next { s with rdata := s.symcnt.extractLsb' 0 32 } ∧
    exec .rdSymcntHi s = .next { s with rdata := (s.symcnt.extractLsb' 32 8).setWidth 32 } ∧
    exec .rdTbitsLo s = .next { s with rdata := s.tbits.extractLsb' 0 32 } ∧
    exec .rdTbitsHi s = .next { s with rdata := (s.tbits.extractLsb' 32 16).setWidth 32 } ∧
    exec .rdMaxlen s = .next { s with rdata := s.maxlen.setWidth 32 } ∧
    exec .rdPad s = .next { s with rdata := s.pad.setWidth 32 } ∧
    exec .rdDcountLo s = .next { s with rdata := s.dcount.extractLsb' 0 32 } ∧
    exec .rdDcountHi s = .next { s with rdata := (s.dcount.extractLsb' 32 8).setWidth 32 } ∧
    ∀ sym : Byte, exec (.rdFt sym) s = .next { s with rdata := s.ft[sym.toNat]'sym.isLt }

/-- `40_host_access.md` R165, `10_state.md` R43: the code-table readout while BUSY = 0. -/
def Obligations.CodeReadoutWhileIdle : Prop :=
  ∀ s : State, s.busy = false →
    (s.ctValid = false → ∀ i ∈ [Instr.rdCtLen, .rdCtCode0, .rdCtCode1, .rdCtCode2, .rdCtCode3, .rdCtCode4, .rdCtCode5,
      .rdCtCode6, .rdCtCode7], exec i s = .next { s with rdata := 0 }) ∧
    (s.ctValid = true →
      exec .rdCtLen s = .next { s with rdata := (codeAt s.ct s.ctSel).len.setWidth 32 } ∧
      exec .rdCtCode0 s = .next { s with rdata := (codeAt s.ct s.ctSel).code.extractLsb' 0 32 } ∧
      exec .rdCtCode1 s = .next { s with rdata := (codeAt s.ct s.ctSel).code.extractLsb' 32 32 } ∧
      exec .rdCtCode2 s = .next { s with rdata := (codeAt s.ct s.ctSel).code.extractLsb' 64 32 } ∧
      exec .rdCtCode3 s = .next { s with rdata := (codeAt s.ct s.ctSel).code.extractLsb' 96 32 } ∧
      exec .rdCtCode4 s = .next { s with rdata := (codeAt s.ct s.ctSel).code.extractLsb' 128 32 } ∧
      exec .rdCtCode5 s = .next { s with rdata := (codeAt s.ct s.ctSel).code.extractLsb' 160 32 } ∧
      exec .rdCtCode6 s = .next { s with rdata := (codeAt s.ct s.ctSel).code.extractLsb' 192 32 } ∧
      exec .rdCtCode7 s = .next { s with rdata := (codeAt s.ct s.ctSel).code.extractLsb' 224 32 })

/-- `40_host_access.md` R166, `10_state.md` R44: the node readout while BUSY = 0. -/
def Obligations.NodeReadoutWhileIdle : Prop :=
  ∀ s : State, s.busy = false →
    ((s.treeValid = false ∨ s.root.val < s.ndSel.toNat) →
      ∀ i ∈ [Instr.rdNdInfo, .rdNdChild, .rdNdWLo, .rdNdWHi], exec i s = .next { s with rdata := 0 }) ∧
    (∀ i : NodeIx, s.treeValid = true → s.ndSel.toNat = i.val → i.val ≤ s.root.val →
      exec .rdNdInfo s = .next { s with
        rdata := 1#1 ++ 0#15 ++ (if (nodeAt s.arena i).leaf then (nodeAt s.arena i).sym else 0#8) ++ 0#7 ++
          BitVec.ofBool (nodeAt s.arena i).leaf } ∧
      exec .rdNdChild s = .next { s with
        rdata := if (nodeAt s.arena i).leaf then 0#32
          else 0#7 ++ BitVec.ofNat 9 (nodeAt s.arena i).right.val ++ 0#7 ++
            BitVec.ofNat 9 (nodeAt s.arena i).left.val } ∧
      exec .rdNdWLo s = .next { s with rdata := (nodeAt s.arena i).w.extractLsb' 0 32 } ∧
      exec .rdNdWHi s = .next { s with rdata := ((nodeAt s.arena i).w.extractLsb' 32 8).setWidth 32 })

/-- `10_state.md` R60: while BUSY = 1 each of these reads returns a fresh free word and has no other effect (log 4). -/
def Obligations.BusyReadsReturnFreeWords : Prop :=
  ∀ (i : Instr) (s : State), busyUnspecified i = true → s.busy = true →
    exec i s = .next { s with rdata := Config.freeWord s.draws, draws := s.draws + 1 }

/-- `20_memory.md` R86: every read but that of OUT_DATA changes the read-data port alone (the draw counter is the model's,
log 4). -/
def Obligations.ReadsHaveNoSideEffect : Prop :=
  ∀ (i : Instr) (s t : State), isRead i = true → i ≠ .rdOutData → exec i s = .next t →
    t = { s with rdata := t.rdata, draws := t.draws }

/-- `41_control_commands.md` R192, `20_memory.md` R91: what each command leaves alone. No command writes CTRL, CT_SEL, ND_SEL or
WDROP; each FIFO, table, result register and valid bit is changed only by the commands whose pseudocode names it; the
error registers only by one that fails, DONE only by one that ends. And only a CTRL write changes CTRL. -/
def Obligations.CommandsChangeOnlyTheirState : Prop :=
  (∀ (i : Instr) (s t : State), i.isCommand = true → exec i s = .next t →
    t.ctrl = s.ctrl ∧ t.ctSel = s.ctSel ∧ t.ndSel = s.ndSel ∧ t.wdrop = s.wdrop ∧ t.rdata = s.rdata ∧
    t.params = s.params ∧ t.rstN = s.rstN ∧ t.inputs = s.inputs ∧ t.sched = s.sched ∧ t.draws = s.draws ∧
    ((t.err = s.err ∧ t.errcode = s.errcode ∧ t.errinfo = s.errinfo ∧ (t.done = s.done ∨ (t.done = true ∧ t.seq = none))) ∨
      (t.err = true ∧ t.done = true ∧ t.seq = none)) ∧
    (i ≠ .ftClear → i ≠ .build → i ≠ .hdrParse → t.treeValid = s.treeValid ∧ (i ≠ .gen → t.ctValid = s.ctValid)) ∧
    (i ≠ .hdrParse → i ≠ .encode → i ≠ .decode → t.inRemain = s.inRemain ∧ (i ≠ .flush → t.inFifo = s.inFifo)) ∧
    (i ≠ .hdrWrite → i ≠ .encode → i ≠ .decode → i ≠ .flush → t.outFifo = s.outFifo) ∧
    (i ≠ .ftClear → i ≠ .hdrParse → t.ft = s.ft) ∧
    (i ≠ .build → t.arena = s.arena ∧ t.root = s.root ∧ t.nsym = s.nsym ∧ t.symcnt = s.symcnt) ∧
    (i ≠ .gen → t.ct = s.ct ∧ t.tbits = s.tbits ∧ t.maxlen = s.maxlen) ∧
    (i ≠ .encode → i ≠ .decode → t.pad = s.pad ∧ t.dcount = s.dcount)) ∧
  (∀ (i : Instr) (s t : State), exec i s = .next t → (∀ d, i ≠ .wrCtrl d) → t.ctrl = s.ctrl)

/-- `20_memory.md` R89, `41_control_commands.md` R192: no step of an instruction reorders a FIFO: each one keeps it, takes its
oldest byte or appends one byte, each only where the rules say, and FLUSH and a soft reset alone empty it. -/
def Obligations.FifosKeepTheirOrder : Prop :=
  ∀ (i : Instr) (s t : State), exec i s = .next t →
    (t.inFifo = s.inFifo ∨
      (t.inFifo = [] ∧ (i = .flush ∨ ∃ d : Word, i = .wrCtrl d ∧ d.getLsbD 0 = true)) ∨
      (∃ b, s.inFifo = b :: t.inFifo ∧ (i = .hdrParse ∨ i = .encode ∨ i = .decode)) ∨
      ∃ b, t.inFifo = s.inFifo ++ [b] ∧ ∃ d : Word, i = .wrInData d ∧ b = d.extractLsb' 0 8) ∧
    (t.outFifo = s.outFifo ∨
      (t.outFifo = [] ∧ (i = .flush ∨ ∃ d : Word, i = .wrCtrl d ∧ d.getLsbD 0 = true)) ∨
      (∃ b, s.outFifo = b :: t.outFifo ∧ i = .rdOutData) ∨
      ∃ b, t.outFifo = s.outFifo ++ [b] ∧ (i = .hdrWrite ∨ i = .encode ∨ i = .decode))

/-! ### Control commands -/

/-- `41_control_commands.md` R194, R195: NOP ends with success and touches nothing. -/
def Obligations.NopEndsWithSuccess : Prop := decodeCmd 0x00000000 = .nop ∧ ∀ s : State, exec .nop s = .next s.ended

/-- `41_control_commands.md` R196: FT_CLEAR zeroes every count, clears both valid bits, and ends. -/
def Obligations.FtClearEmptiesTheTable : Prop :=
  decodeCmd 0x00000001 = .ftClear ∧
  ∀ s : State, ∃ t, exec .ftClear s = .next t ∧
    t = State.ended { s with ft := t.ft, treeValid := false, ctValid := false } ∧ ∀ sym, ftGet t.ft sym = 0

/-- `41_control_commands.md` R197: FLUSH empties the input FIFO, then the output FIFO, and ends; IN_REMAIN stays. That it
takes three steps is the model's choice (log 9). -/
def Obligations.FlushEmptiesBothFifos : Prop :=
  (∀ s : State, s.accepted 0x08 →
    exec .flush s = .next { s.movedTo 0x08 0 .flushOut with inFifo := [] } ∧
    execN .flush 3 s = .next (State.ended { s with inFifo := [], outFifo := [] })) ∧
  (∀ (s : State) (c : BitVec 32), s.atPos 0x08 c .flushOut →
    exec .flush s = .next { s.movedTo 0x08 c .flushDone with outFifo := [] }) ∧
  (∀ (s : State) (c : BitVec 32), s.atPos 0x08 c .flushDone → exec .flush s = .next s.ended)

/-- `30_encoding.md` R114, `60_exceptions.md` R312: an illegal command word fails with ILLEGAL_CMD and the word (that a CMD write
of it has failed within the same host step is the model's reading, log 8). -/
def Obligations.IllegalWordFails : Prop :=
  (∀ (s : State) (w : Word), exec (.illegalCmd w) s = .next (s.failed 0x01 w)) ∧
  (∀ (s : State) (w : Word), s.busy = false → s.err = false →
    (w.extractLsb' 8 24 ≠ 0 ∨ 0x08 < (w.extractLsb' 0 8).toNat) → exec (.wrCmd w) s = .next (s.failed 0x01 w))

/-! ### BUILD -/

/-- `42_tree_builder.md` R218: BUILD on an empty FT fails with EMPTY and clears both valid bits. -/
def Obligations.BuildOfEmptyTableFails : Prop :=
  ∀ s : State, (∀ sym, ftGet s.ft sym = 0) →
    exec .build s = .next (State.failed { s with treeValid := false, ctValid := false } 0x02 0)

/-- `42_tree_builder.md` R217: a successful BUILD sets ROOT, NSYM, SYMCNT = Σ FT[s] and TREE_VALID, clears CT_VALID, ends, and
changes nothing else but the arena. -/
def Obligations.BuildSetsItsResults : Prop :=
  ∀ (s : State) (sym : Byte), ftGet s.ft sym ≠ 0 →
    ∃ t, exec .build s = .next t ∧
      t = State.ended { s with
        arena := t.arena, root := t.root, nsym := t.nsym, symcnt := t.symcnt, treeValid := true, ctValid := false } ∧
      t.nsym.toNat = ((List.range 256).filter fun k => ftGet s.ft (BitVec.ofNat 8 k) != 0).length ∧
      t.root.val = 2 * t.nsym.toNat - 2 ∧ t.symcnt = (nodeAt t.arena t.root).w ∧
      t.symcnt.toNat = ((List.range 256).map fun k => (ftGet s.ft (BitVec.ofNat 8 k)).toNat).sum

/-- `42_tree_builder.md` R211: the leaf of the i-th smallest present symbol is arena entry i, with its symbol and count. -/
def Obligations.BuildPlacesLeavesInSymbolOrder : Prop :=
  ∀ (s t : State) (i : NodeIx) (sym : Byte), exec .build s = .next t → ftGet s.ft sym ≠ 0 →
    i.val = ((List.range sym.toNat).filter fun k => ftGet s.ft (BitVec.ofNat 8 k) != 0).length →
    (nodeAt t.arena i).leaf = true ∧ (nodeAt t.arena i).sym = sym ∧
      (nodeAt t.arena i).w = (ftGet s.ft sym).setWidth 40

/-- `42_tree_builder.md` R220, R212 to R214, R222: after a successful BUILD, entries N to ROOT are internal nodes, each weight
the sum of the children's, children at smaller indices, the left child's key below the right child's; entries below N are
leaves; every entry below ROOT is the child of exactly one; and the two children of a merge are the two least keys of its
queue, the entries below it that no earlier merge has taken. -/
def Obligations.BuildMakesAStrictBinaryTree : Prop :=
  ∀ (s t : State) (sym : Byte), exec .build s = .next t → ftGet s.ft sym ≠ 0 →
    (∀ i : NodeIx, i.val < t.nsym.toNat → (nodeAt t.arena i).leaf = true) ∧
    (∀ i : NodeIx, t.nsym.toNat ≤ i.val → i.val ≤ t.root.val →
      (nodeAt t.arena i).leaf = false ∧ (nodeAt t.arena i).left.val < i.val ∧ (nodeAt t.arena i).right.val < i.val ∧
      (nodeAt t.arena i).w.toNat = (nodeAt t.arena (nodeAt t.arena i).left).w.toNat +
        (nodeAt t.arena (nodeAt t.arena i).right).w.toNat ∧
      keyLt ((nodeAt t.arena (nodeAt t.arena i).left).w.toNat, (nodeAt t.arena i).left.val)
        ((nodeAt t.arena (nodeAt t.arena i).right).w.toNat, (nodeAt t.arena i).right.val) = true) ∧
    (∀ j : NodeIx, j.val < t.root.val → ∃ i : NodeIx, (t.nsym.toNat ≤ i.val ∧ i.val ≤ t.root.val ∧
      ((nodeAt t.arena i).left = j ∨ (nodeAt t.arena i).right = j)) ∧
      ∀ k : NodeIx, t.nsym.toNat ≤ k.val → k.val ≤ t.root.val →
        ((nodeAt t.arena k).left = j ∨ (nodeAt t.arena k).right = j) → k = i) ∧
    (∀ i j : NodeIx, t.nsym.toNat ≤ i.val → i.val ≤ t.root.val → j.val < i.val →
      (∀ k : NodeIx, t.nsym.toNat ≤ k.val → k.val < i.val → (nodeAt t.arena k).left ≠ j ∧ (nodeAt t.arena k).right ≠ j) →
      j = (nodeAt t.arena i).left ∨ j = (nodeAt t.arena i).right ∨
        keyLt ((nodeAt t.arena (nodeAt t.arena i).right).w.toNat, (nodeAt t.arena i).right.val)
          ((nodeAt t.arena j).w.toNat, j.val) = true)

/-- `42_tree_builder.md` R221: the tree is a function of the FT alone. -/
def Obligations.BuildDependsOnTheTableAlone : Prop :=
  ∀ (s s' t t' : State) (sym : Byte), s.ft = s'.ft → ftGet s.ft sym ≠ 0 → exec .build s = .next t →
    exec .build s' = .next t' → t.root = t'.root ∧ t.nsym = t'.nsym ∧ t.symcnt = t'.symcnt ∧
      ∀ i : NodeIx, i.val ≤ t.root.val → nodeAt t.arena i = nodeAt t'.arena i

/-! ### GEN -/

/-- `43_code_table.md` R230: GEN without a valid tree fails with NOTREE and changes nothing else. -/
def Obligations.GenNeedsAValidTree : Prop :=
  ∀ s : State, s.treeValid = false → exec .gen s = .next (s.failed 0x03 0)

/-- `43_code_table.md` R237, R238, R235: GEN with a valid tree writes the code table, TBITS, MAXLEN and CT_VALID alone, and
ends; TBITS is Σ w · CL over the leaves, MAXLEN bounds every CL, and a single leaf gets the code "0". -/
def Obligations.GenWritesTheCodeTable : Prop :=
  ∀ s : State, s.treeValid = true →
    ∃ t, exec .gen s = .next t ∧
      t = State.ended { s with ct := t.ct, tbits := t.tbits, maxlen := t.maxlen, ctValid := true } ∧
      t.tbits = BitVec.ofNat 48 (((List.range s.nsym.toNat).map fun i =>
        (nodeAt s.arena (Fin.ofNat 511 i)).w.toNat *
          (codeAt t.ct (nodeAt s.arena (Fin.ofNat 511 i)).sym).len.toNat).sum) ∧
      (∀ sym, (codeAt t.ct sym).len.toNat ≤ t.maxlen.toNat) ∧ (∃ sym, (codeAt t.ct sym).len = t.maxlen) ∧
      ((nodeAt s.arena s.root).leaf = true →
        codeAt t.ct (nodeAt s.arena s.root).sym = { len := 1, code := 0 } ∧
        ∀ sym, sym ≠ (nodeAt s.arena s.root).sym → codeAt t.ct sym = { len := 0, code := 0 })

/-- `43_code_table.md` R231, R233, R234, R238: for the valid tree of the FT, a symbol has a code exactly when it is present, the
code has no bit above its length and at most max(1, N - 1) bits, and for N of at least 2 it is the path from the root to
the symbol's leaf; TBITS is Σ FT[s] · CL[s]. -/
def Obligations.GenCodesAreThePathsToTheLeaves : Prop :=
  ∀ s t : State, s.treeValid = true → s.TreeOfFt → exec .gen s = .next t →
    ∀ sym, (codeAt t.ct sym).len.toNat ≤ max 1 (s.nsym.toNat - 1) ∧
      ((codeAt t.ct sym).len ≠ 0 ↔ ftGet s.ft sym ≠ 0) ∧
      (codeAt t.ct sym).code.toNat < 2 ^ (codeAt t.ct sym).len.toNat ∧
      (2 ≤ s.nsym.toNat → ftGet s.ft sym ≠ 0 → LeadsTo s.arena s.root (codeBits (codeAt t.ct sym)) sym) ∧
      t.tbits.toNat = ((List.range 256).map fun k =>
        (ftGet s.ft (BitVec.ofNat 8 k)).toNat * (codeAt t.ct (BitVec.ofNat 8 k)).len.toNat).sum

/-- `43_code_table.md` R239: no present symbol's code is a prefix of another's. -/
def Obligations.GenCodesArePrefixFree : Prop :=
  ∀ s t : State, s.treeValid = true → s.TreeOfFt → exec .gen s = .next t →
    ∀ a b, ftGet s.ft a ≠ 0 → ftGet s.ft b ≠ 0 → a ≠ b →
      ¬ (codeBits (codeAt t.ct a) <+: codeBits (codeAt t.ct b))

/-! ### HDR_WRITE and HDR_PARSE -/

/-- `44_encoder.md` R251: HDR_WRITE fails with EMPTY on an empty FT, and otherwise starts on its header; each further step
pushes one byte, waits while the output FIFO is full, or ends. -/
def Obligations.HdrWriteSteps : Prop :=
  (∀ s : State, s.accepted 0x04 → (∀ sym, ftGet s.ft sym = 0) → exec .hdrWrite s = .next (s.failed 0x02 0)) ∧
  (∀ (s : State) (sym : Byte), s.accepted 0x04 → ftGet s.ft sym ≠ 0 →
    exec .hdrWrite s = .next (s.movedTo 0x04 0 (.hdrWrite (headerBytes s.ft)))) ∧
  (∀ (s : State) (c : BitVec 32) (b : Byte) (rest : List Byte), s.atPos 0x04 c (.hdrWrite (b :: rest)) →
    (s.room → exec .hdrWrite s =
      .next { s.movedTo 0x04 c (.hdrWrite rest) with outFifo := s.outFifo ++ [b] }) ∧
    (¬ s.room → exec .hdrWrite s = .next s)) ∧
  (∀ (s : State) (c : BitVec 32), s.atPos 0x04 c (.hdrWrite []) → exec .hdrWrite s = .next s.ended)

/-- `44_encoder.md` R251, R252, `30_encoding.md` R116: with room for it, HDR_WRITE pushes N in two bytes and then, in
ascending symbol order, a record of five bytes per present symbol, 2 + 5·N bytes, and ends. -/
def Obligations.HdrWriteSendsTheWholeHeader : Prop :=
  ∀ (s : State) (sym : Byte), s.accepted 0x04 → ftGet s.ft sym ≠ 0 →
    let present := (List.range 256).filter fun k => ftGet s.ft (BitVec.ofNat 8 k) != 0
    let header := [BitVec.ofNat 8 (present.length / 256), BitVec.ofNat 8 present.length] ++
      present.flatMap fun k =>
        let c := ftGet s.ft (BitVec.ofNat 8 k)
        [BitVec.ofNat 8 k, c.extractLsb' 24 8, c.extractLsb' 16 8, c.extractLsb' 8 8, c.extractLsb' 0 8]
    header.length = 2 + 5 * present.length ∧
    (s.outFifo.length + header.length ≤ s.params.ofifoDepth →
      execN .hdrWrite (header.length + 2) s = .next (State.ended { s with outFifo := s.outFifo ++ header }))

/-- `45_decoder.md` R281, R282, R317's order: HDR_PARSE step by step, its errors included. -/
def Obligations.HdrParseSteps : Prop :=
  (∀ s : State, s.accepted 0x05 → ∃ t, exec .hdrParse s = .next t ∧
    t = { s.movedTo 0x05 0 .parseHigh with ft := t.ft, treeValid := false, ctValid := false } ∧
    ∀ sym, ftGet t.ft sym = 0) ∧
  (∀ (s : State) (c : BitVec 32) (p : Pos) (next : Byte → Pos), s.atPos 0x05 c p →
    ((p = .parseHigh ∧ ∀ b, next b = .parseLow b) ∨
      (∃ hi, p = .parseLow hi ∧ ∀ b, next b = .parseCheckN (BitVec.ofNat 16 (256 * hi.toNat + b.toNat))) ∨
      (∃ k, p = .parseSymbol (k + 1) ∧ ∀ b, next b = .parseCount (k + 1) b 0 0) ∨
      (∃ left sym got v, p = .parseCount left sym got v ∧ got < 3 ∧
        ∀ b, next b = .parseCount left sym (got + 1) (BitVec.ofNat 32 (256 * v.toNat + b.toNat))) ∨
      (∃ left sym v, p = .parseCount left sym 3 v ∧
        ∀ b, next b = .parseCheckRecord left sym (BitVec.ofNat 32 (256 * v.toNat + b.toNat)))) →
    (s.inRemain = 0 → exec .hdrParse s = .next (s.failed 0x05 c)) ∧
    (s.inRemain ≠ 0 → s.inFifo = [] → exec .hdrParse s = .next s) ∧
    (∀ b rest, s.inRemain ≠ 0 → s.inFifo = b :: rest → exec .hdrParse s = .next (s.took rest 0x05 c (next b)))) ∧
  (∀ (s : State) (c : BitVec 32) (n : BitVec 16), s.atPos 0x05 c (.parseCheckN n) →
    exec .hdrParse s = .next (if n.toNat = 0 ∨ 256 < n.toNat then s.failed 0x06 (n.setWidth 32)
      else s.movedTo 0x05 c (.parseSymbol n.toNat))) ∧
  (∀ (s : State) (c : BitVec 32) (left : Nat) (sym : Byte) (v : Word), s.atPos 0x05 c (.parseCheckRecord left sym v) →
    (ftGet s.ft sym ≠ 0 → exec .hdrParse s = .next (s.failed 0x07 (sym.setWidth 32))) ∧
    (ftGet s.ft sym = 0 → v = 0 → exec .hdrParse s = .next (s.failed 0x08 (sym.setWidth 32))) ∧
    (ftGet s.ft sym = 0 → v ≠ 0 → ∃ t, exec .hdrParse s = .next t ∧
      t = { s.movedTo 0x05 c (.parseSymbol (left - 1)) with ft := t.ft } ∧ ftGet t.ft sym = v ∧
      ∀ other, other ≠ sym → ftGet t.ft other = ftGet s.ft other)) ∧
  (∀ (s : State) (c : BitVec 32), s.atPos 0x05 c (.parseSymbol 0) → exec .hdrParse s = .next s.ended)

/-- `44_encoder.md` R254: HDR_PARSE of the header HDR_WRITE sends for a table that is not empty restores that table, takes the
header's bytes and no more, and ends. -/
def Obligations.HdrParseRestoresTheTable : Prop :=
  ∀ (s : State) (ft : Vector Word 256) (sym : Byte) (rest : List Byte), s.accepted 0x05 → ftGet ft sym ≠ 0 →
    s.inFifo = headerBytes ft ++ rest → (headerBytes ft).length ≤ s.inRemain.toNat →
    ∃ n, execN .hdrParse n s = .next (State.ended { s with
      ft := ft, treeValid := false, ctValid := false, inFifo := rest,
      inRemain := s.inRemain - BitVec.ofNat 32 (headerBytes ft).length })

/-! ### ENCODE -/

/-- `44_encoder.md` R259, R261: the precondition checks in their order, then PAD, DCOUNT and the padding count. -/
def Obligations.EncodeChecksThenComputesPadding : Prop :=
  ∀ s : State, s.accepted 0x06 →
    (s.ctValid = false → exec .encode s = .next (s.failed 0x04 0)) ∧
    (s.ctValid = true → s.inRemain.setWidth 40 ≠ s.symcnt → exec .encode s = .next (s.failed 0x09 s.inRemain)) ∧
    (s.ctValid = true → s.inRemain.setWidth 40 = s.symcnt → ∃ t l, exec .encode s = .next t ∧
      t = { s.movedTo 0x06 0 (.encHeader l) with pad := t.pad, dcount := 0 } ∧ l.p = t.pad ∧ l.left = s.inRemain.toNat ∧
      l.acc = [] ∧ l.nbits = 0 ∧ (s.tbits.toNat + t.pad.toNat) % 8 = 0 ∧
      (s.ctrl.padmode = false → t.pad.toNat ≤ 7) ∧ (s.ctrl.padmode = true → 1 ≤ t.pad.toNat ∧ t.pad.toNat ≤ 8))

/-- `44_encoder.md` R260, R262, R264, R266: ENCODE step by step after its checks: the header byte, the symbols, their bits, the
total check, the padding bits, the end; it waits for input and for room. -/
def Obligations.EncodeSteps : Prop :=
  (∀ (s : State) (c : BitVec 32) (l : EncLocals), s.atPos 0x06 c (.encHeader l) →
    (s.room → exec .encode s = .next { s.movedTo 0x06 c (.encSymbol l) with outFifo := s.outFifo ++ [l.p] }) ∧
    (¬ s.room → exec .encode s = .next s)) ∧
  (∀ (s : State) (c : BitVec 32) (l : EncLocals), s.atPos 0x06 c (.encSymbol l) →
    (l.left = 0 → l.nbits ≠ s.tbits.toNat → exec .encode s = .next (s.failed 0x0B (BitVec.ofNat 32 l.nbits))) ∧
    (l.left = 0 → l.nbits = s.tbits.toNat → exec .encode s = .next (s.movedTo 0x06 c (.encPad l l.p.toNat))) ∧
    (l.left ≠ 0 → s.inRemain = 0 → exec .encode s = .next (s.failed 0x05 c)) ∧
    (l.left ≠ 0 → s.inRemain ≠ 0 → s.inFifo = [] → exec .encode s = .next s) ∧
    (∀ b rest, l.left ≠ 0 → s.inRemain ≠ 0 → s.inFifo = b :: rest →
      exec .encode s = .next (s.took rest 0x06 c (.encLookup { l with left := l.left - 1 } b)))) ∧
  (∀ (s : State) (c : BitVec 32) (l : EncLocals) (sym : Byte), s.atPos 0x06 c (.encLookup l sym) →
    exec .encode s = .next (if (codeAt s.ct sym).len = 0 then s.failed 0x0A (sym.setWidth 32)
      else s.movedTo 0x06 c (.encBits l sym (codeAt s.ct sym).len.toNat))) ∧
  (∀ (s : State) (c : BitVec 32) (l : EncLocals) (sym : Byte), s.atPos 0x06 c (.encBits l sym 0) →
    exec .encode s = .next { s.movedTo 0x06 c (.encSymbol l) with dcount := s.dcount + 1 }) ∧
  (∀ (s : State) (c : BitVec 32) (l l' : EncLocals) (p p' : Pos) (b : Bool), s.atPos 0x06 c p →
    ((∃ sym k, p = .encBits l sym (k + 1) ∧ p' = .encBits l' sym k ∧ b = (codeAt s.ct sym).code.getLsbD k ∧
        l' = { l with acc := l'.acc, nbits := l.nbits + 1 }) ∨
      (∃ k, p = .encPad l (k + 1) ∧ p' = .encPad l' k ∧ b = false ∧ l' = { l with acc := l'.acc })) →
    (l.acc.length ≠ 7 → l'.acc = l.acc ++ [b] → exec .encode s = .next (s.movedTo 0x06 c p')) ∧
    (l.acc.length = 7 → ¬ s.room → exec .encode s = .next s) ∧
    (l.acc.length = 7 → l'.acc = [] → s.room → ∃ y : Byte, (∀ k, k < 8 → (l.acc ++ [b])[k]? = some (y.getLsbD (7 - k))) ∧
      exec .encode s = .next { s.movedTo 0x06 c p' with outFifo := s.outFifo ++ [y] })) ∧
  (∀ (s : State) (c : BitVec 32) (l : EncLocals), s.atPos 0x06 c (.encPad l 0) → exec .encode s = .next s.ended)

/-- `44_encoder.md` R263: an ENCODE that reaches `done` from an aligned state has an empty accumulator. -/
def Obligations.EncodeEndsByteAligned : Prop :=
  ∀ (s t : State) (q : Seq), s.EncoderAligned → s.seq = some q → decodeCmd q.word = .encode → s.err = false →
    exec .encode s = .next t → t.seq = none → t.err = false → ∃ l, q.pos = .encPad l 0 ∧ l.acc = []

/-- `44_encoder.md` R260, `30_encoding.md` R118: ENCODE of symbols that all have codes totalling TBITS, with room for its
bytes, pushes the padding header and then the concatenated codes and `p` zero bits, packed, and ends. -/
def Obligations.EncodeSendsTheWholeStream : Prop :=
  ∀ (s : State) (xs rest : List Byte), s.accepted 0x06 → s.ctValid = true → s.inRemain.setWidth 40 = s.symcnt →
    xs.length = s.inRemain.toNat → s.inFifo = xs ++ rest → (∀ x ∈ xs, (codeAt s.ct x).len ≠ 0) →
    (xs.flatMap fun x => codeBits (codeAt s.ct x)).length = s.tbits.toNat →
    let p := padCount s.ctrl.padmode (s.tbits.toNat % 8)
    s.outFifo.length + 1 + (s.tbits.toNat + p) / 8 ≤ s.params.ofifoDepth →
    ∃ n, execN .encode n s = .next (State.ended { s with
      inFifo := rest, inRemain := 0, pad := BitVec.ofNat 8 p, dcount := BitVec.ofNat 40 xs.length,
      outFifo := s.outFifo ++ BitVec.ofNat 8 p ::
        packBits ((xs.flatMap fun x => codeBits (codeAt s.ct x)) ++ List.replicate p false) })

/-! ### DECODE -/

/-- `45_decoder.md` R283, R284, R285: the start of DECODE, its padding header and that header's check. -/
def Obligations.DecodeStartsAndChecksPadding : Prop :=
  (∀ s : State, s.accepted 0x07 →
    (s.treeValid = false → exec .decode s = .next (s.failed 0x03 0)) ∧
    (s.treeValid = true →
      exec .decode s = .next { s.movedTo 0x07 0 (.decHeader s.inRemain) with dcount := 0 })) ∧
  (∀ (s : State) (c : BitVec 32) (len : Word), s.atPos 0x07 c (.decHeader len) →
    (s.inRemain = 0 → exec .decode s = .next (s.failed 0x05 c)) ∧
    (s.inRemain ≠ 0 → s.inFifo = [] → exec .decode s = .next s) ∧
    (∀ b rest, s.inRemain ≠ 0 → s.inFifo = b :: rest →
      exec .decode s = .next (s.took rest 0x07 c (.decCheckPad len b)))) ∧
  (∀ (s : State) (c : BitVec 32) (len : Word) (p : Byte), s.atPos 0x07 c (.decCheckPad len p) →
    ((8 < p.toNat ∨ 8 * (len.toNat - 1) < p.toNat) →
      exec .decode s = .next (State.failed { s with pad := p } 0x0C (p.setWidth 32))) ∧
    (p.toNat ≤ 8 → p.toNat ≤ 8 * (len.toNat - 1) →
      exec .decode s = .next { s.movedTo 0x07 c (.decWalk
          { p := p, e := 8 * (len.toNat - 1) - p.toNat, j := 0, x := s.root, cur := 0, nb := 0 }) with
        pad := p }))

/-- `45_decoder.md` R287 to R291: the walk: a byte when no bit is left; a bit moves the walker, emits a symbol at a leaf, or
fails with BADBIT on a single-leaf tree; after the last bit the mid-tree check. -/
def Obligations.DecodeWalkSteps : Prop :=
  ∀ (s : State) (c : BitVec 32) (l : DecLocals), s.atPos 0x07 c (.decWalk l) →
    let b := l.cur.getLsbD (l.nb - 1)
    let child := if b then (nodeAt s.arena l.x).right else (nodeAt s.arena l.x).left
    (l.e ≤ l.j → l.x ≠ s.root → exec .decode s = .next (s.failed 0x0E (s.dcount.extractLsb' 0 32))) ∧
    (l.e ≤ l.j → l.x = s.root → exec .decode s = .next (s.movedTo 0x07 c (.decPad l l.p.toNat false))) ∧
    (l.j < l.e → l.nb = 0 → s.inRemain = 0 → exec .decode s = .next (s.failed 0x05 c)) ∧
    (l.j < l.e → l.nb = 0 → s.inRemain ≠ 0 → s.inFifo = [] → exec .decode s = .next s) ∧
    (∀ y rest, l.j < l.e → l.nb = 0 → s.inRemain ≠ 0 → s.inFifo = y :: rest →
      exec .decode s = .next (s.took rest 0x07 c (.decWalk { l with cur := y, nb := 8 }))) ∧
    (l.j < l.e → l.nb ≠ 0 → (nodeAt s.arena s.root).leaf = true → b = true →
      exec .decode s = .next (s.failed 0x0D (BitVec.ofNat 32 l.j))) ∧
    (l.j < l.e → l.nb ≠ 0 → (nodeAt s.arena s.root).leaf = false → (nodeAt s.arena child).leaf = false →
      exec .decode s = .next (s.movedTo 0x07 c (.decWalk { l with j := l.j + 1, x := child, nb := l.nb - 1 }))) ∧
    (∀ sym, l.j < l.e → l.nb ≠ 0 →
      (((nodeAt s.arena s.root).leaf = true ∧ b = false ∧ sym = (nodeAt s.arena s.root).sym) ∨
        ((nodeAt s.arena s.root).leaf = false ∧ (nodeAt s.arena child).leaf = true ∧
          sym = (nodeAt s.arena child).sym)) →
      (s.room → exec .decode s = .next
        { s.movedTo 0x07 c (.decWalk { l with j := l.j + 1, x := s.root, nb := l.nb - 1 }) with
          outFifo := s.outFifo ++ [sym], dcount := s.dcount + 1 }) ∧
      (¬ s.room → exec .decode s = .next s))

/-- `45_decoder.md` R292, R295, R296: the padding bits are taken and ORed; then PADBITS, COUNT or the end. -/
def Obligations.DecodeEndsWithItsChecks : Prop :=
  (∀ (s : State) (c : BitVec 32) (l : DecLocals) (k : Nat) (z : Bool), s.atPos 0x07 c (.decPad l (k + 1) z) →
    (l.nb = 0 → s.inRemain = 0 → exec .decode s = .next (s.failed 0x05 c)) ∧
    (l.nb = 0 → s.inRemain ≠ 0 → s.inFifo = [] → exec .decode s = .next s) ∧
    (∀ y rest, l.nb = 0 → s.inRemain ≠ 0 → s.inFifo = y :: rest →
      exec .decode s = .next (s.took rest 0x07 c (.decPad { l with cur := y, nb := 8 } (k + 1) z))) ∧
    (l.nb ≠ 0 → exec .decode s =
      .next (s.movedTo 0x07 c (.decPad { l with nb := l.nb - 1 } k (z || l.cur.getLsbD (l.nb - 1)))))) ∧
  (∀ (s : State) (c : BitVec 32) (l : DecLocals) (z : Bool), s.atPos 0x07 c (.decPad l 0 z) →
    (s.ctrl.padchk = true → z = true → exec .decode s = .next (s.failed 0x0F (l.p.setWidth 32))) ∧
    ((s.ctrl.padchk = false ∨ z = false) → s.ctrl.cntchk = true → s.dcount ≠ s.symcnt →
      exec .decode s = .next (s.failed 0x10 (s.dcount.extractLsb' 0 32))) ∧
    ((s.ctrl.padchk = false ∨ z = false) → (s.ctrl.cntchk = false ∨ s.dcount = s.symcnt) →
      exec .decode s = .next s.ended))

/-- `45_decoder.md` R288, R293: within its budget, a DECODE step past the padding header never fails with TRUNC, and a DECODE
that reaches `done` leaves IN_REMAIN = 0. -/
def Obligations.DecodeTakesExactlyItsStream : Prop :=
  ∀ (s t : State) (q : Seq), s.DecoderBudget → s.seq = some q → decodeCmd q.word = .decode → s.err = false →
    exec .decode s = .next t →
    ((∃ l, q.pos = .decWalk l) ∨ (∃ l k z, q.pos = .decPad l k z) → t.err = true → t.errcode ≠ 0x05) ∧
    (t.seq = none → t.err = false → t.inRemain = 0)

/-- `44_encoder.md` R269, `45_decoder.md` R284, R287: DECODE of a stream made of a padding header, the path bits of the symbols
`xs` (one 0 for each on a single-leaf tree) and `p` zero bits, with the symbol count met, gives back `xs` and ends. -/
def Obligations.DecodeReturnsTheEncodedSymbols : Prop :=
  ∀ (s : State) (xs rest : List Byte) (code : Byte → List Bool) (p : Nat), s.accepted 0x07 → s.treeValid = true →
    (((nodeAt s.arena s.root).leaf = false ∧ ∀ x ∈ xs, LeadsTo s.arena s.root (code x) x) ∨
      ((nodeAt s.arena s.root).leaf = true ∧ ∀ x ∈ xs, x = (nodeAt s.arena s.root).sym ∧ code x = [false])) → p ≤ 8 →
    ((xs.flatMap code).length + p) % 8 = 0 →
    s.inFifo = BitVec.ofNat 8 p :: packBits (xs.flatMap code ++ List.replicate p false) ++ rest →
    s.inRemain.toNat = 1 + ((xs.flatMap code).length + p) / 8 → s.outFifo.length + xs.length ≤ s.params.ofifoDepth →
    (s.ctrl.cntchk = false ∨ s.symcnt = BitVec.ofNat 40 xs.length) →
    ∃ n, execN .decode n s = .next (State.ended { s with
      inFifo := rest, inRemain := 0, pad := BitVec.ofNat 8 p, dcount := BitVec.ofNat 40 xs.length,
      outFifo := s.outFifo ++ xs })
end

