-- ==== Sys2Proof/Laws/State.lean ====
section
/-! SUPPORT. One lemma per field of State for each shared update, so that no later proof unfolds a record update. -/

namespace Sys2Proof.Machine

/-! ### readResult -/

@[simp] theorem readResult_params (s : State) (v : Word) : (readResult s v).params = s.params := rfl
@[simp] theorem readResult_ctrl (s : State) (v : Word) : (readResult s v).ctrl = s.ctrl := rfl
@[simp] theorem readResult_err (s : State) (v : Word) : (readResult s v).err = s.err := rfl
@[simp] theorem readResult_done (s : State) (v : Word) : (readResult s v).done = s.done := rfl
@[simp] theorem readResult_treeValid (s : State) (v : Word) : (readResult s v).treeValid = s.treeValid := rfl
@[simp] theorem readResult_ctValid (s : State) (v : Word) : (readResult s v).ctValid = s.ctValid := rfl
@[simp] theorem readResult_wdrop (s : State) (v : Word) : (readResult s v).wdrop = s.wdrop := rfl
@[simp] theorem readResult_errcode (s : State) (v : Word) : (readResult s v).errcode = s.errcode := rfl
@[simp] theorem readResult_errinfo (s : State) (v : Word) : (readResult s v).errinfo = s.errinfo := rfl
@[simp] theorem readResult_inFifo (s : State) (v : Word) : (readResult s v).inFifo = s.inFifo := rfl
@[simp] theorem readResult_outFifo (s : State) (v : Word) : (readResult s v).outFifo = s.outFifo := rfl
@[simp] theorem readResult_inRemain (s : State) (v : Word) : (readResult s v).inRemain = s.inRemain := rfl
@[simp] theorem readResult_nsym (s : State) (v : Word) : (readResult s v).nsym = s.nsym := rfl
@[simp] theorem readResult_root (s : State) (v : Word) : (readResult s v).root = s.root := rfl
@[simp] theorem readResult_symcnt (s : State) (v : Word) : (readResult s v).symcnt = s.symcnt := rfl
@[simp] theorem readResult_tbits (s : State) (v : Word) : (readResult s v).tbits = s.tbits := rfl
@[simp] theorem readResult_maxlen (s : State) (v : Word) : (readResult s v).maxlen = s.maxlen := rfl
@[simp] theorem readResult_pad (s : State) (v : Word) : (readResult s v).pad = s.pad := rfl
@[simp] theorem readResult_dcount (s : State) (v : Word) : (readResult s v).dcount = s.dcount := rfl
@[simp] theorem readResult_ctSel (s : State) (v : Word) : (readResult s v).ctSel = s.ctSel := rfl
@[simp] theorem readResult_ndSel (s : State) (v : Word) : (readResult s v).ndSel = s.ndSel := rfl
@[simp] theorem readResult_ft (s : State) (v : Word) : (readResult s v).ft = s.ft := rfl
@[simp] theorem readResult_arena (s : State) (v : Word) : (readResult s v).arena = s.arena := rfl
@[simp] theorem readResult_ct (s : State) (v : Word) : (readResult s v).ct = s.ct := rfl
@[simp] theorem readResult_seq (s : State) (v : Word) : (readResult s v).seq = s.seq := rfl
@[simp] theorem readResult_rdata (s : State) (v : Word) : (readResult s v).rdata = v := rfl
@[simp] theorem readResult_rstN (s : State) (v : Word) : (readResult s v).rstN = s.rstN := rfl
@[simp] theorem readResult_inputs (s : State) (v : Word) : (readResult s v).inputs = s.inputs := rfl
@[simp] theorem readResult_sched (s : State) (v : Word) : (readResult s v).sched = s.sched := rfl
@[simp] theorem readResult_draws (s : State) (v : Word) : (readResult s v).draws = s.draws := rfl

/-! ### readUnspecified -/

@[simp] theorem readUnspecified_params (s : State) : (readUnspecified s).params = s.params := rfl
@[simp] theorem readUnspecified_ctrl (s : State) : (readUnspecified s).ctrl = s.ctrl := rfl
@[simp] theorem readUnspecified_err (s : State) : (readUnspecified s).err = s.err := rfl
@[simp] theorem readUnspecified_done (s : State) : (readUnspecified s).done = s.done := rfl
@[simp] theorem readUnspecified_treeValid (s : State) : (readUnspecified s).treeValid = s.treeValid := rfl
@[simp] theorem readUnspecified_ctValid (s : State) : (readUnspecified s).ctValid = s.ctValid := rfl
@[simp] theorem readUnspecified_wdrop (s : State) : (readUnspecified s).wdrop = s.wdrop := rfl
@[simp] theorem readUnspecified_errcode (s : State) : (readUnspecified s).errcode = s.errcode := rfl
@[simp] theorem readUnspecified_errinfo (s : State) : (readUnspecified s).errinfo = s.errinfo := rfl
@[simp] theorem readUnspecified_inFifo (s : State) : (readUnspecified s).inFifo = s.inFifo := rfl
@[simp] theorem readUnspecified_outFifo (s : State) : (readUnspecified s).outFifo = s.outFifo := rfl
@[simp] theorem readUnspecified_inRemain (s : State) : (readUnspecified s).inRemain = s.inRemain := rfl
@[simp] theorem readUnspecified_nsym (s : State) : (readUnspecified s).nsym = s.nsym := rfl
@[simp] theorem readUnspecified_root (s : State) : (readUnspecified s).root = s.root := rfl
@[simp] theorem readUnspecified_symcnt (s : State) : (readUnspecified s).symcnt = s.symcnt := rfl
@[simp] theorem readUnspecified_tbits (s : State) : (readUnspecified s).tbits = s.tbits := rfl
@[simp] theorem readUnspecified_maxlen (s : State) : (readUnspecified s).maxlen = s.maxlen := rfl
@[simp] theorem readUnspecified_pad (s : State) : (readUnspecified s).pad = s.pad := rfl
@[simp] theorem readUnspecified_dcount (s : State) : (readUnspecified s).dcount = s.dcount := rfl
@[simp] theorem readUnspecified_ctSel (s : State) : (readUnspecified s).ctSel = s.ctSel := rfl
@[simp] theorem readUnspecified_ndSel (s : State) : (readUnspecified s).ndSel = s.ndSel := rfl
@[simp] theorem readUnspecified_ft (s : State) : (readUnspecified s).ft = s.ft := rfl
@[simp] theorem readUnspecified_arena (s : State) : (readUnspecified s).arena = s.arena := rfl
@[simp] theorem readUnspecified_ct (s : State) : (readUnspecified s).ct = s.ct := rfl
@[simp] theorem readUnspecified_seq (s : State) : (readUnspecified s).seq = s.seq := rfl
@[simp] theorem readUnspecified_rdata (s : State) : (readUnspecified s).rdata = Config.freeWord s.draws := rfl
@[simp] theorem readUnspecified_rstN (s : State) : (readUnspecified s).rstN = s.rstN := rfl
@[simp] theorem readUnspecified_inputs (s : State) : (readUnspecified s).inputs = s.inputs := rfl
@[simp] theorem readUnspecified_sched (s : State) : (readUnspecified s).sched = s.sched := rfl
@[simp] theorem readUnspecified_draws (s : State) : (readUnspecified s).draws = s.draws + 1 := rfl

/-! ### dropWrite -/

@[simp] theorem dropWrite_params (s : State) : (dropWrite s).params = s.params := rfl
@[simp] theorem dropWrite_ctrl (s : State) : (dropWrite s).ctrl = s.ctrl := rfl
@[simp] theorem dropWrite_err (s : State) : (dropWrite s).err = s.err := rfl
@[simp] theorem dropWrite_done (s : State) : (dropWrite s).done = s.done := rfl
@[simp] theorem dropWrite_treeValid (s : State) : (dropWrite s).treeValid = s.treeValid := rfl
@[simp] theorem dropWrite_ctValid (s : State) : (dropWrite s).ctValid = s.ctValid := rfl
@[simp] theorem dropWrite_wdrop (s : State) : (dropWrite s).wdrop = true := rfl
@[simp] theorem dropWrite_errcode (s : State) : (dropWrite s).errcode = s.errcode := rfl
@[simp] theorem dropWrite_errinfo (s : State) : (dropWrite s).errinfo = s.errinfo := rfl
@[simp] theorem dropWrite_inFifo (s : State) : (dropWrite s).inFifo = s.inFifo := rfl
@[simp] theorem dropWrite_outFifo (s : State) : (dropWrite s).outFifo = s.outFifo := rfl
@[simp] theorem dropWrite_inRemain (s : State) : (dropWrite s).inRemain = s.inRemain := rfl
@[simp] theorem dropWrite_nsym (s : State) : (dropWrite s).nsym = s.nsym := rfl
@[simp] theorem dropWrite_root (s : State) : (dropWrite s).root = s.root := rfl
@[simp] theorem dropWrite_symcnt (s : State) : (dropWrite s).symcnt = s.symcnt := rfl
@[simp] theorem dropWrite_tbits (s : State) : (dropWrite s).tbits = s.tbits := rfl
@[simp] theorem dropWrite_maxlen (s : State) : (dropWrite s).maxlen = s.maxlen := rfl
@[simp] theorem dropWrite_pad (s : State) : (dropWrite s).pad = s.pad := rfl
@[simp] theorem dropWrite_dcount (s : State) : (dropWrite s).dcount = s.dcount := rfl
@[simp] theorem dropWrite_ctSel (s : State) : (dropWrite s).ctSel = s.ctSel := rfl
@[simp] theorem dropWrite_ndSel (s : State) : (dropWrite s).ndSel = s.ndSel := rfl
@[simp] theorem dropWrite_ft (s : State) : (dropWrite s).ft = s.ft := rfl
@[simp] theorem dropWrite_arena (s : State) : (dropWrite s).arena = s.arena := rfl
@[simp] theorem dropWrite_ct (s : State) : (dropWrite s).ct = s.ct := rfl
@[simp] theorem dropWrite_seq (s : State) : (dropWrite s).seq = s.seq := rfl
@[simp] theorem dropWrite_rdata (s : State) : (dropWrite s).rdata = s.rdata := rfl
@[simp] theorem dropWrite_rstN (s : State) : (dropWrite s).rstN = s.rstN := rfl
@[simp] theorem dropWrite_inputs (s : State) : (dropWrite s).inputs = s.inputs := rfl
@[simp] theorem dropWrite_sched (s : State) : (dropWrite s).sched = s.sched := rfl
@[simp] theorem dropWrite_draws (s : State) : (dropWrite s).draws = s.draws := rfl

/-! ### invalidate -/

@[simp] theorem invalidate_params (s : State) : (invalidate s).params = s.params := rfl
@[simp] theorem invalidate_ctrl (s : State) : (invalidate s).ctrl = s.ctrl := rfl
@[simp] theorem invalidate_err (s : State) : (invalidate s).err = s.err := rfl
@[simp] theorem invalidate_done (s : State) : (invalidate s).done = s.done := rfl
@[simp] theorem invalidate_treeValid (s : State) : (invalidate s).treeValid = false := rfl
@[simp] theorem invalidate_ctValid (s : State) : (invalidate s).ctValid = false := rfl
@[simp] theorem invalidate_wdrop (s : State) : (invalidate s).wdrop = s.wdrop := rfl
@[simp] theorem invalidate_errcode (s : State) : (invalidate s).errcode = s.errcode := rfl
@[simp] theorem invalidate_errinfo (s : State) : (invalidate s).errinfo = s.errinfo := rfl
@[simp] theorem invalidate_inFifo (s : State) : (invalidate s).inFifo = s.inFifo := rfl
@[simp] theorem invalidate_outFifo (s : State) : (invalidate s).outFifo = s.outFifo := rfl
@[simp] theorem invalidate_inRemain (s : State) : (invalidate s).inRemain = s.inRemain := rfl
@[simp] theorem invalidate_nsym (s : State) : (invalidate s).nsym = s.nsym := rfl
@[simp] theorem invalidate_root (s : State) : (invalidate s).root = s.root := rfl
@[simp] theorem invalidate_symcnt (s : State) : (invalidate s).symcnt = s.symcnt := rfl
@[simp] theorem invalidate_tbits (s : State) : (invalidate s).tbits = s.tbits := rfl
@[simp] theorem invalidate_maxlen (s : State) : (invalidate s).maxlen = s.maxlen := rfl
@[simp] theorem invalidate_pad (s : State) : (invalidate s).pad = s.pad := rfl
@[simp] theorem invalidate_dcount (s : State) : (invalidate s).dcount = s.dcount := rfl
@[simp] theorem invalidate_ctSel (s : State) : (invalidate s).ctSel = s.ctSel := rfl
@[simp] theorem invalidate_ndSel (s : State) : (invalidate s).ndSel = s.ndSel := rfl
@[simp] theorem invalidate_ft (s : State) : (invalidate s).ft = s.ft := rfl
@[simp] theorem invalidate_arena (s : State) : (invalidate s).arena = s.arena := rfl
@[simp] theorem invalidate_ct (s : State) : (invalidate s).ct = s.ct := rfl
@[simp] theorem invalidate_seq (s : State) : (invalidate s).seq = s.seq := rfl
@[simp] theorem invalidate_rdata (s : State) : (invalidate s).rdata = s.rdata := rfl
@[simp] theorem invalidate_rstN (s : State) : (invalidate s).rstN = s.rstN := rfl
@[simp] theorem invalidate_inputs (s : State) : (invalidate s).inputs = s.inputs := rfl
@[simp] theorem invalidate_sched (s : State) : (invalidate s).sched = s.sched := rfl
@[simp] theorem invalidate_draws (s : State) : (invalidate s).draws = s.draws := rfl

/-! ### cmdDone -/

@[simp] theorem cmdDone_params (s : State) : (cmdDone s).params = s.params := rfl
@[simp] theorem cmdDone_ctrl (s : State) : (cmdDone s).ctrl = s.ctrl := rfl
@[simp] theorem cmdDone_err (s : State) : (cmdDone s).err = s.err := rfl
@[simp] theorem cmdDone_done (s : State) : (cmdDone s).done = true := rfl
@[simp] theorem cmdDone_treeValid (s : State) : (cmdDone s).treeValid = s.treeValid := rfl
@[simp] theorem cmdDone_ctValid (s : State) : (cmdDone s).ctValid = s.ctValid := rfl
@[simp] theorem cmdDone_wdrop (s : State) : (cmdDone s).wdrop = s.wdrop := rfl
@[simp] theorem cmdDone_errcode (s : State) : (cmdDone s).errcode = s.errcode := rfl
@[simp] theorem cmdDone_errinfo (s : State) : (cmdDone s).errinfo = s.errinfo := rfl
@[simp] theorem cmdDone_inFifo (s : State) : (cmdDone s).inFifo = s.inFifo := rfl
@[simp] theorem cmdDone_outFifo (s : State) : (cmdDone s).outFifo = s.outFifo := rfl
@[simp] theorem cmdDone_inRemain (s : State) : (cmdDone s).inRemain = s.inRemain := rfl
@[simp] theorem cmdDone_nsym (s : State) : (cmdDone s).nsym = s.nsym := rfl
@[simp] theorem cmdDone_root (s : State) : (cmdDone s).root = s.root := rfl
@[simp] theorem cmdDone_symcnt (s : State) : (cmdDone s).symcnt = s.symcnt := rfl
@[simp] theorem cmdDone_tbits (s : State) : (cmdDone s).tbits = s.tbits := rfl
@[simp] theorem cmdDone_maxlen (s : State) : (cmdDone s).maxlen = s.maxlen := rfl
@[simp] theorem cmdDone_pad (s : State) : (cmdDone s).pad = s.pad := rfl
@[simp] theorem cmdDone_dcount (s : State) : (cmdDone s).dcount = s.dcount := rfl
@[simp] theorem cmdDone_ctSel (s : State) : (cmdDone s).ctSel = s.ctSel := rfl
@[simp] theorem cmdDone_ndSel (s : State) : (cmdDone s).ndSel = s.ndSel := rfl
@[simp] theorem cmdDone_ft (s : State) : (cmdDone s).ft = s.ft := rfl
@[simp] theorem cmdDone_arena (s : State) : (cmdDone s).arena = s.arena := rfl
@[simp] theorem cmdDone_ct (s : State) : (cmdDone s).ct = s.ct := rfl
@[simp] theorem cmdDone_seq (s : State) : (cmdDone s).seq = none := rfl
@[simp] theorem cmdDone_rdata (s : State) : (cmdDone s).rdata = s.rdata := rfl
@[simp] theorem cmdDone_rstN (s : State) : (cmdDone s).rstN = s.rstN := rfl
@[simp] theorem cmdDone_inputs (s : State) : (cmdDone s).inputs = s.inputs := rfl
@[simp] theorem cmdDone_sched (s : State) : (cmdDone s).sched = s.sched := rfl
@[simp] theorem cmdDone_draws (s : State) : (cmdDone s).draws = s.draws := rfl

/-! ### cmdFail -/

@[simp] theorem cmdFail_params (s : State) (e : ErrName) (i : Word) : (cmdFail s e i).params = s.params := rfl
@[simp] theorem cmdFail_ctrl (s : State) (e : ErrName) (i : Word) : (cmdFail s e i).ctrl = s.ctrl := rfl
@[simp] theorem cmdFail_err (s : State) (e : ErrName) (i : Word) : (cmdFail s e i).err = true := rfl
@[simp] theorem cmdFail_done (s : State) (e : ErrName) (i : Word) : (cmdFail s e i).done = true := rfl
@[simp] theorem cmdFail_treeValid (s : State) (e : ErrName) (i : Word) : (cmdFail s e i).treeValid = s.treeValid := rfl
@[simp] theorem cmdFail_ctValid (s : State) (e : ErrName) (i : Word) : (cmdFail s e i).ctValid = s.ctValid := rfl
@[simp] theorem cmdFail_wdrop (s : State) (e : ErrName) (i : Word) : (cmdFail s e i).wdrop = s.wdrop := rfl
@[simp] theorem cmdFail_errcode (s : State) (e : ErrName) (i : Word) : (cmdFail s e i).errcode = errNumber e := rfl
@[simp] theorem cmdFail_errinfo (s : State) (e : ErrName) (i : Word) : (cmdFail s e i).errinfo = i := rfl
@[simp] theorem cmdFail_inFifo (s : State) (e : ErrName) (i : Word) : (cmdFail s e i).inFifo = s.inFifo := rfl
@[simp] theorem cmdFail_outFifo (s : State) (e : ErrName) (i : Word) : (cmdFail s e i).outFifo = s.outFifo := rfl
@[simp] theorem cmdFail_inRemain (s : State) (e : ErrName) (i : Word) : (cmdFail s e i).inRemain = s.inRemain := rfl
@[simp] theorem cmdFail_nsym (s : State) (e : ErrName) (i : Word) : (cmdFail s e i).nsym = s.nsym := rfl
@[simp] theorem cmdFail_root (s : State) (e : ErrName) (i : Word) : (cmdFail s e i).root = s.root := rfl
@[simp] theorem cmdFail_symcnt (s : State) (e : ErrName) (i : Word) : (cmdFail s e i).symcnt = s.symcnt := rfl
@[simp] theorem cmdFail_tbits (s : State) (e : ErrName) (i : Word) : (cmdFail s e i).tbits = s.tbits := rfl
@[simp] theorem cmdFail_maxlen (s : State) (e : ErrName) (i : Word) : (cmdFail s e i).maxlen = s.maxlen := rfl
@[simp] theorem cmdFail_pad (s : State) (e : ErrName) (i : Word) : (cmdFail s e i).pad = s.pad := rfl
@[simp] theorem cmdFail_dcount (s : State) (e : ErrName) (i : Word) : (cmdFail s e i).dcount = s.dcount := rfl
@[simp] theorem cmdFail_ctSel (s : State) (e : ErrName) (i : Word) : (cmdFail s e i).ctSel = s.ctSel := rfl
@[simp] theorem cmdFail_ndSel (s : State) (e : ErrName) (i : Word) : (cmdFail s e i).ndSel = s.ndSel := rfl
@[simp] theorem cmdFail_ft (s : State) (e : ErrName) (i : Word) : (cmdFail s e i).ft = s.ft := rfl
@[simp] theorem cmdFail_arena (s : State) (e : ErrName) (i : Word) : (cmdFail s e i).arena = s.arena := rfl
@[simp] theorem cmdFail_ct (s : State) (e : ErrName) (i : Word) : (cmdFail s e i).ct = s.ct := rfl
@[simp] theorem cmdFail_seq (s : State) (e : ErrName) (i : Word) : (cmdFail s e i).seq = none := rfl
@[simp] theorem cmdFail_rdata (s : State) (e : ErrName) (i : Word) : (cmdFail s e i).rdata = s.rdata := rfl
@[simp] theorem cmdFail_rstN (s : State) (e : ErrName) (i : Word) : (cmdFail s e i).rstN = s.rstN := rfl
@[simp] theorem cmdFail_inputs (s : State) (e : ErrName) (i : Word) : (cmdFail s e i).inputs = s.inputs := rfl
@[simp] theorem cmdFail_sched (s : State) (e : ErrName) (i : Word) : (cmdFail s e i).sched = s.sched := rfl
@[simp] theorem cmdFail_draws (s : State) (e : ErrName) (i : Word) : (cmdFail s e i).draws = s.draws := rfl

/-! ### enter -/

@[simp] theorem enter_params (s : State) (w : Word) (p : Pos) : (enter s w p).params = s.params := rfl
@[simp] theorem enter_ctrl (s : State) (w : Word) (p : Pos) : (enter s w p).ctrl = s.ctrl := rfl
@[simp] theorem enter_err (s : State) (w : Word) (p : Pos) : (enter s w p).err = s.err := rfl
@[simp] theorem enter_done (s : State) (w : Word) (p : Pos) : (enter s w p).done = s.done := rfl
@[simp] theorem enter_treeValid (s : State) (w : Word) (p : Pos) : (enter s w p).treeValid = s.treeValid := rfl
@[simp] theorem enter_ctValid (s : State) (w : Word) (p : Pos) : (enter s w p).ctValid = s.ctValid := rfl
@[simp] theorem enter_wdrop (s : State) (w : Word) (p : Pos) : (enter s w p).wdrop = s.wdrop := rfl
@[simp] theorem enter_errcode (s : State) (w : Word) (p : Pos) : (enter s w p).errcode = s.errcode := rfl
@[simp] theorem enter_errinfo (s : State) (w : Word) (p : Pos) : (enter s w p).errinfo = s.errinfo := rfl
@[simp] theorem enter_inFifo (s : State) (w : Word) (p : Pos) : (enter s w p).inFifo = s.inFifo := rfl
@[simp] theorem enter_outFifo (s : State) (w : Word) (p : Pos) : (enter s w p).outFifo = s.outFifo := rfl
@[simp] theorem enter_inRemain (s : State) (w : Word) (p : Pos) : (enter s w p).inRemain = s.inRemain := rfl
@[simp] theorem enter_nsym (s : State) (w : Word) (p : Pos) : (enter s w p).nsym = s.nsym := rfl
@[simp] theorem enter_root (s : State) (w : Word) (p : Pos) : (enter s w p).root = s.root := rfl
@[simp] theorem enter_symcnt (s : State) (w : Word) (p : Pos) : (enter s w p).symcnt = s.symcnt := rfl
@[simp] theorem enter_tbits (s : State) (w : Word) (p : Pos) : (enter s w p).tbits = s.tbits := rfl
@[simp] theorem enter_maxlen (s : State) (w : Word) (p : Pos) : (enter s w p).maxlen = s.maxlen := rfl
@[simp] theorem enter_pad (s : State) (w : Word) (p : Pos) : (enter s w p).pad = s.pad := rfl
@[simp] theorem enter_dcount (s : State) (w : Word) (p : Pos) : (enter s w p).dcount = s.dcount := rfl
@[simp] theorem enter_ctSel (s : State) (w : Word) (p : Pos) : (enter s w p).ctSel = s.ctSel := rfl
@[simp] theorem enter_ndSel (s : State) (w : Word) (p : Pos) : (enter s w p).ndSel = s.ndSel := rfl
@[simp] theorem enter_ft (s : State) (w : Word) (p : Pos) : (enter s w p).ft = s.ft := rfl
@[simp] theorem enter_arena (s : State) (w : Word) (p : Pos) : (enter s w p).arena = s.arena := rfl
@[simp] theorem enter_ct (s : State) (w : Word) (p : Pos) : (enter s w p).ct = s.ct := rfl
@[simp] theorem enter_seq (s : State) (w : Word) (p : Pos) : (enter s w p).seq = some { word := w, consumed := 0, pos := p } := rfl
@[simp] theorem enter_rdata (s : State) (w : Word) (p : Pos) : (enter s w p).rdata = s.rdata := rfl
@[simp] theorem enter_rstN (s : State) (w : Word) (p : Pos) : (enter s w p).rstN = s.rstN := rfl
@[simp] theorem enter_inputs (s : State) (w : Word) (p : Pos) : (enter s w p).inputs = s.inputs := rfl
@[simp] theorem enter_sched (s : State) (w : Word) (p : Pos) : (enter s w p).sched = s.sched := rfl
@[simp] theorem enter_draws (s : State) (w : Word) (p : Pos) : (enter s w p).draws = s.draws := rfl

/-! ### moveTo -/

@[simp] theorem moveTo_params (s : State) (q : Seq) (p : Pos) : (moveTo s q p).params = s.params := rfl
@[simp] theorem moveTo_ctrl (s : State) (q : Seq) (p : Pos) : (moveTo s q p).ctrl = s.ctrl := rfl
@[simp] theorem moveTo_err (s : State) (q : Seq) (p : Pos) : (moveTo s q p).err = s.err := rfl
@[simp] theorem moveTo_done (s : State) (q : Seq) (p : Pos) : (moveTo s q p).done = s.done := rfl
@[simp] theorem moveTo_treeValid (s : State) (q : Seq) (p : Pos) : (moveTo s q p).treeValid = s.treeValid := rfl
@[simp] theorem moveTo_ctValid (s : State) (q : Seq) (p : Pos) : (moveTo s q p).ctValid = s.ctValid := rfl
@[simp] theorem moveTo_wdrop (s : State) (q : Seq) (p : Pos) : (moveTo s q p).wdrop = s.wdrop := rfl
@[simp] theorem moveTo_errcode (s : State) (q : Seq) (p : Pos) : (moveTo s q p).errcode = s.errcode := rfl
@[simp] theorem moveTo_errinfo (s : State) (q : Seq) (p : Pos) : (moveTo s q p).errinfo = s.errinfo := rfl
@[simp] theorem moveTo_inFifo (s : State) (q : Seq) (p : Pos) : (moveTo s q p).inFifo = s.inFifo := rfl
@[simp] theorem moveTo_outFifo (s : State) (q : Seq) (p : Pos) : (moveTo s q p).outFifo = s.outFifo := rfl
@[simp] theorem moveTo_inRemain (s : State) (q : Seq) (p : Pos) : (moveTo s q p).inRemain = s.inRemain := rfl
@[simp] theorem moveTo_nsym (s : State) (q : Seq) (p : Pos) : (moveTo s q p).nsym = s.nsym := rfl
@[simp] theorem moveTo_root (s : State) (q : Seq) (p : Pos) : (moveTo s q p).root = s.root := rfl
@[simp] theorem moveTo_symcnt (s : State) (q : Seq) (p : Pos) : (moveTo s q p).symcnt = s.symcnt := rfl
@[simp] theorem moveTo_tbits (s : State) (q : Seq) (p : Pos) : (moveTo s q p).tbits = s.tbits := rfl
@[simp] theorem moveTo_maxlen (s : State) (q : Seq) (p : Pos) : (moveTo s q p).maxlen = s.maxlen := rfl
@[simp] theorem moveTo_pad (s : State) (q : Seq) (p : Pos) : (moveTo s q p).pad = s.pad := rfl
@[simp] theorem moveTo_dcount (s : State) (q : Seq) (p : Pos) : (moveTo s q p).dcount = s.dcount := rfl
@[simp] theorem moveTo_ctSel (s : State) (q : Seq) (p : Pos) : (moveTo s q p).ctSel = s.ctSel := rfl
@[simp] theorem moveTo_ndSel (s : State) (q : Seq) (p : Pos) : (moveTo s q p).ndSel = s.ndSel := rfl
@[simp] theorem moveTo_ft (s : State) (q : Seq) (p : Pos) : (moveTo s q p).ft = s.ft := rfl
@[simp] theorem moveTo_arena (s : State) (q : Seq) (p : Pos) : (moveTo s q p).arena = s.arena := rfl
@[simp] theorem moveTo_ct (s : State) (q : Seq) (p : Pos) : (moveTo s q p).ct = s.ct := rfl
@[simp] theorem moveTo_seq (s : State) (q : Seq) (p : Pos) : (moveTo s q p).seq = some { q with pos := p } := rfl
@[simp] theorem moveTo_rdata (s : State) (q : Seq) (p : Pos) : (moveTo s q p).rdata = s.rdata := rfl
@[simp] theorem moveTo_rstN (s : State) (q : Seq) (p : Pos) : (moveTo s q p).rstN = s.rstN := rfl
@[simp] theorem moveTo_inputs (s : State) (q : Seq) (p : Pos) : (moveTo s q p).inputs = s.inputs := rfl
@[simp] theorem moveTo_sched (s : State) (q : Seq) (p : Pos) : (moveTo s q p).sched = s.sched := rfl
@[simp] theorem moveTo_draws (s : State) (q : Seq) (p : Pos) : (moveTo s q p).draws = s.draws := rfl

/-! ### acknowledge -/

@[simp] theorem acknowledge_params (s : State) (d : Word) : (acknowledge s d).params = s.params := rfl
@[simp] theorem acknowledge_ctrl (s : State) (d : Word) : (acknowledge s d).ctrl = s.ctrl := rfl
@[simp] theorem acknowledge_err (s : State) (d : Word) : (acknowledge s d).err = if ackErrClr d then false else s.err := rfl
@[simp] theorem acknowledge_done (s : State) (d : Word) : (acknowledge s d).done = if ackDoneClr d then false else s.done := rfl
@[simp] theorem acknowledge_treeValid (s : State) (d : Word) : (acknowledge s d).treeValid = s.treeValid := rfl
@[simp] theorem acknowledge_ctValid (s : State) (d : Word) : (acknowledge s d).ctValid = s.ctValid := rfl
@[simp] theorem acknowledge_wdrop (s : State) (d : Word) : (acknowledge s d).wdrop = if ackWdropClr d then false else s.wdrop := rfl
@[simp] theorem acknowledge_errcode (s : State) (d : Word) : (acknowledge s d).errcode = if ackErrClr d then 0 else s.errcode := rfl
@[simp] theorem acknowledge_errinfo (s : State) (d : Word) : (acknowledge s d).errinfo = if ackErrClr d then 0 else s.errinfo := rfl
@[simp] theorem acknowledge_inFifo (s : State) (d : Word) : (acknowledge s d).inFifo = s.inFifo := rfl
@[simp] theorem acknowledge_outFifo (s : State) (d : Word) : (acknowledge s d).outFifo = s.outFifo := rfl
@[simp] theorem acknowledge_inRemain (s : State) (d : Word) : (acknowledge s d).inRemain = s.inRemain := rfl
@[simp] theorem acknowledge_nsym (s : State) (d : Word) : (acknowledge s d).nsym = s.nsym := rfl
@[simp] theorem acknowledge_root (s : State) (d : Word) : (acknowledge s d).root = s.root := rfl
@[simp] theorem acknowledge_symcnt (s : State) (d : Word) : (acknowledge s d).symcnt = s.symcnt := rfl
@[simp] theorem acknowledge_tbits (s : State) (d : Word) : (acknowledge s d).tbits = s.tbits := rfl
@[simp] theorem acknowledge_maxlen (s : State) (d : Word) : (acknowledge s d).maxlen = s.maxlen := rfl
@[simp] theorem acknowledge_pad (s : State) (d : Word) : (acknowledge s d).pad = s.pad := rfl
@[simp] theorem acknowledge_dcount (s : State) (d : Word) : (acknowledge s d).dcount = s.dcount := rfl
@[simp] theorem acknowledge_ctSel (s : State) (d : Word) : (acknowledge s d).ctSel = s.ctSel := rfl
@[simp] theorem acknowledge_ndSel (s : State) (d : Word) : (acknowledge s d).ndSel = s.ndSel := rfl
@[simp] theorem acknowledge_ft (s : State) (d : Word) : (acknowledge s d).ft = s.ft := rfl
@[simp] theorem acknowledge_arena (s : State) (d : Word) : (acknowledge s d).arena = s.arena := rfl
@[simp] theorem acknowledge_ct (s : State) (d : Word) : (acknowledge s d).ct = s.ct := rfl
@[simp] theorem acknowledge_seq (s : State) (d : Word) : (acknowledge s d).seq = s.seq := rfl
@[simp] theorem acknowledge_rdata (s : State) (d : Word) : (acknowledge s d).rdata = s.rdata := rfl
@[simp] theorem acknowledge_rstN (s : State) (d : Word) : (acknowledge s d).rstN = s.rstN := rfl
@[simp] theorem acknowledge_inputs (s : State) (d : Word) : (acknowledge s d).inputs = s.inputs := rfl
@[simp] theorem acknowledge_sched (s : State) (d : Word) : (acknowledge s d).sched = s.sched := rfl
@[simp] theorem acknowledge_draws (s : State) (d : Word) : (acknowledge s d).draws = s.draws := rfl

/-! ### redrawFt -/

@[simp] theorem redrawFt_params (s : State) : (redrawFt s).params = s.params := rfl
@[simp] theorem redrawFt_ctrl (s : State) : (redrawFt s).ctrl = s.ctrl := rfl
@[simp] theorem redrawFt_err (s : State) : (redrawFt s).err = s.err := rfl
@[simp] theorem redrawFt_done (s : State) : (redrawFt s).done = s.done := rfl
@[simp] theorem redrawFt_treeValid (s : State) : (redrawFt s).treeValid = s.treeValid := rfl
@[simp] theorem redrawFt_ctValid (s : State) : (redrawFt s).ctValid = s.ctValid := rfl
@[simp] theorem redrawFt_wdrop (s : State) : (redrawFt s).wdrop = s.wdrop := rfl
@[simp] theorem redrawFt_errcode (s : State) : (redrawFt s).errcode = s.errcode := rfl
@[simp] theorem redrawFt_errinfo (s : State) : (redrawFt s).errinfo = s.errinfo := rfl
@[simp] theorem redrawFt_inFifo (s : State) : (redrawFt s).inFifo = s.inFifo := rfl
@[simp] theorem redrawFt_outFifo (s : State) : (redrawFt s).outFifo = s.outFifo := rfl
@[simp] theorem redrawFt_inRemain (s : State) : (redrawFt s).inRemain = s.inRemain := rfl
@[simp] theorem redrawFt_nsym (s : State) : (redrawFt s).nsym = s.nsym := rfl
@[simp] theorem redrawFt_root (s : State) : (redrawFt s).root = s.root := rfl
@[simp] theorem redrawFt_symcnt (s : State) : (redrawFt s).symcnt = s.symcnt := rfl
@[simp] theorem redrawFt_tbits (s : State) : (redrawFt s).tbits = s.tbits := rfl
@[simp] theorem redrawFt_maxlen (s : State) : (redrawFt s).maxlen = s.maxlen := rfl
@[simp] theorem redrawFt_pad (s : State) : (redrawFt s).pad = s.pad := rfl
@[simp] theorem redrawFt_dcount (s : State) : (redrawFt s).dcount = s.dcount := rfl
@[simp] theorem redrawFt_ctSel (s : State) : (redrawFt s).ctSel = s.ctSel := rfl
@[simp] theorem redrawFt_ndSel (s : State) : (redrawFt s).ndSel = s.ndSel := rfl
@[simp] theorem redrawFt_ft (s : State) : (redrawFt s).ft = tabulate 256 (Config.freeFt s.draws) := rfl
@[simp] theorem redrawFt_arena (s : State) : (redrawFt s).arena = s.arena := rfl
@[simp] theorem redrawFt_ct (s : State) : (redrawFt s).ct = s.ct := rfl
@[simp] theorem redrawFt_seq (s : State) : (redrawFt s).seq = s.seq := rfl
@[simp] theorem redrawFt_rdata (s : State) : (redrawFt s).rdata = s.rdata := rfl
@[simp] theorem redrawFt_rstN (s : State) : (redrawFt s).rstN = s.rstN := rfl
@[simp] theorem redrawFt_inputs (s : State) : (redrawFt s).inputs = s.inputs := rfl
@[simp] theorem redrawFt_sched (s : State) : (redrawFt s).sched = s.sched := rfl
@[simp] theorem redrawFt_draws (s : State) : (redrawFt s).draws = s.draws + 1 := rfl

/-! ### tick -/

@[simp] theorem tick_params (s : State) : (tick s).params = s.params := rfl
@[simp] theorem tick_ctrl (s : State) : (tick s).ctrl = s.ctrl := rfl
@[simp] theorem tick_err (s : State) : (tick s).err = s.err := rfl
@[simp] theorem tick_done (s : State) : (tick s).done = s.done := rfl
@[simp] theorem tick_treeValid (s : State) : (tick s).treeValid = s.treeValid := rfl
@[simp] theorem tick_ctValid (s : State) : (tick s).ctValid = s.ctValid := rfl
@[simp] theorem tick_wdrop (s : State) : (tick s).wdrop = s.wdrop := rfl
@[simp] theorem tick_errcode (s : State) : (tick s).errcode = s.errcode := rfl
@[simp] theorem tick_errinfo (s : State) : (tick s).errinfo = s.errinfo := rfl
@[simp] theorem tick_inFifo (s : State) : (tick s).inFifo = s.inFifo := rfl
@[simp] theorem tick_outFifo (s : State) : (tick s).outFifo = s.outFifo := rfl
@[simp] theorem tick_inRemain (s : State) : (tick s).inRemain = s.inRemain := rfl
@[simp] theorem tick_nsym (s : State) : (tick s).nsym = s.nsym := rfl
@[simp] theorem tick_root (s : State) : (tick s).root = s.root := rfl
@[simp] theorem tick_symcnt (s : State) : (tick s).symcnt = s.symcnt := rfl
@[simp] theorem tick_tbits (s : State) : (tick s).tbits = s.tbits := rfl
@[simp] theorem tick_maxlen (s : State) : (tick s).maxlen = s.maxlen := rfl
@[simp] theorem tick_pad (s : State) : (tick s).pad = s.pad := rfl
@[simp] theorem tick_dcount (s : State) : (tick s).dcount = s.dcount := rfl
@[simp] theorem tick_ctSel (s : State) : (tick s).ctSel = s.ctSel := rfl
@[simp] theorem tick_ndSel (s : State) : (tick s).ndSel = s.ndSel := rfl
@[simp] theorem tick_ft (s : State) : (tick s).ft = s.ft := rfl
@[simp] theorem tick_arena (s : State) : (tick s).arena = s.arena := rfl
@[simp] theorem tick_ct (s : State) : (tick s).ct = s.ct := rfl
@[simp] theorem tick_seq (s : State) : (tick s).seq = s.seq := rfl
@[simp] theorem tick_rdata (s : State) : (tick s).rdata = s.rdata := rfl
@[simp] theorem tick_rstN (s : State) : (tick s).rstN = s.rstN := rfl
@[simp] theorem tick_inputs (s : State) : (tick s).inputs = s.inputs := rfl
@[simp] theorem tick_sched (s : State) : (tick s).sched = s.sched.tail := rfl
@[simp] theorem tick_draws (s : State) : (tick s).draws = s.draws := rfl

/-! ### BUSY -/

@[simp] theorem busy_of_seq_none {s : State} (h : s.seq = none) : s.busy = false := by simp [State.busy, h]

@[simp] theorem busy_of_seq_some {s : State} {q : Seq} (h : s.seq = some q) : s.busy = true := by simp [State.busy, h]

theorem busy_eq_false_iff {s : State} : s.busy = false ↔ s.seq = none := by
  cases h : s.seq <;> simp [State.busy, h]

end Sys2Proof.Machine
end

