-- ==== Sys2Proof/Laws/Ops.lean ====
section
/-! SUPPORT. What each shared operation can do, said once: provers cite these instead of unfolding the operations. -/

namespace Sys2Proof.Machine

/-- A read defined only while idle: the value, or a free word (`10_state.md` R60). -/
theorem readWhenIdle_idle {s : State} (h : s.busy = false) (v : Word) : readWhenIdle s v = readResult s v := by
  simp [readWhenIdle, h]

theorem readWhenIdle_busy {s : State} (h : s.busy = true) (v : Word) : readWhenIdle s v = readUnspecified s := by
  simp [readWhenIdle, h]

theorem writeWhenIdle_idle {s : State} (h : s.busy = false) (t : State) : writeWhenIdle s t = t := by
  simp [writeWhenIdle, h]

theorem writeWhenIdle_busy {s : State} (h : s.busy = true) (t : State) : writeWhenIdle s t = dropWrite s := by
  simp [writeWhenIdle, h]

/-- Everything `InByte()` can do: fail on an empty budget, or take the oldest byte (`00_scope.md` R15). -/
theorem inByte_cases {s t : State} {q : Seq} {next : Byte → Pos} (h : inByte s q next = some t) :
    (s.inRemain = 0 ∧ t = cmdFail s .trunc q.consumed) ∨
      ∃ b rest, s.inRemain ≠ 0 ∧ s.inFifo = b :: rest ∧
        t = { s with
          inFifo := rest
          inRemain := s.inRemain - 1
          seq := some { q with consumed := q.consumed + 1, pos := next b } } := by
  unfold inByte at h
  split at h
  · exact .inl ⟨‹_›, (Option.some.inj h).symm⟩
  · cases hf : s.inFifo with
    | nil => simp [hf] at h
    | cons b rest => exact .inr ⟨b, rest, ‹_›, rfl, by simpa [hf] using h.symm⟩

/-- `InByte()` waits exactly on an empty FIFO with a budget left (`00_scope.md` R15). -/
theorem inByte_none_iff {s : State} {q : Seq} {next : Byte → Pos} :
    inByte s q next = none ↔ s.inRemain ≠ 0 ∧ s.inFifo = [] := by
  unfold inByte
  split
  · simp_all
  · cases hf : s.inFifo <;> simp_all

/-- Everything `OutPush(b)` can do: append one byte where there is room (`00_scope.md` R16). -/
theorem outPush_cases {s t : State} {b : Byte} (h : outPush s b = some t) :
    s.outFifo.length < s.params.ofifoDepth ∧ t = { s with outFifo := s.outFifo ++ [b] } := by
  unfold outPush at h
  split at h
  · exact ⟨‹_›, (Option.some.inj h).symm⟩
  · cases h

/-- `OutPush(b)` waits exactly on a full FIFO (`00_scope.md` R16). -/
theorem outPush_none_iff {s : State} {b : Byte} : outPush s b = none ↔ s.params.ofifoDepth ≤ s.outFifo.length := by
  unfold outPush State.outLevel
  split <;> simp_all

/-- Everything `AppendBit(b)` can do: keep the bit, or push the completed byte (`44_encoder.md` R262). -/
theorem appendBit_cases {s t : State} {acc acc' : List Bool} {b : Bool} (h : appendBit s acc b = some (t, acc')) :
    (acc.length ≠ 7 ∧ t = s ∧ acc' = acc ++ [b]) ∨
      (acc.length = 7 ∧ acc' = [] ∧ outPush s (packByte (acc ++ [b])) = some t) := by
  unfold appendBit at h
  by_cases h7 : acc.length = 7
  · refine .inr ⟨h7, ?_⟩
    cases hp : outPush s (packByte (acc ++ [b])) with
    | none => simp [h7, hp] at h
    | some u => simp [h7, hp] at h; exact ⟨h.2, by rw [h.1]⟩
  · refine .inl ⟨h7, ?_⟩
    simp [h7] at h
    exact ⟨h.1.symm, h.2.symm⟩

/-- Everything acceptance can do: drop the word, fail at once, or start the command (`41_control_commands.md` R190). -/
theorem acceptCmd_cases (s : State) (w : Word) :
    ((s.busy = true ∨ s.err = true) ∧ acceptCmd s w = dropWrite s) ∨
      (s.busy = false ∧ s.err = false ∧ illegalWord w = true ∧
        acceptCmd s w = cmdFail { s with done := false } .illegalCmd w) ∨
      (s.busy = false ∧ s.err = false ∧ illegalWord w = false ∧
        acceptCmd s w = { s with done := false, seq := some { word := w, consumed := 0, pos := .start } }) := by
  unfold acceptCmd
  by_cases hb : s.busy = true
  · exact .inl ⟨.inl hb, by simp [hb]⟩
  · by_cases he : s.err = true
    · exact .inl ⟨.inr he, by simp [he]⟩
    · have hb' : s.busy = false := by simpa using hb
      have he' : s.err = false := by simpa using he
      cases hi : illegalWord w
      · exact .inr (.inr ⟨hb', he', rfl, by simp [hb', he']⟩)
      · exact .inr (.inl ⟨hb', he', rfl, by simp [hb', he', cmdFail]⟩)

/-- A soft reset leaves the FT, or, where it aborts FT_CLEAR or HDR_PARSE, a fresh draw (`70_reset_and_hazards.md` R344). -/
theorem softReset_ft (s : State) :
    (softReset s).ft = match s.seq with
      | none => s.ft
      | some q => if rewritesFt q then tabulate 256 (Config.freeFt s.draws) else s.ft := by
  unfold softReset abortCommand
  cases s.seq with
  | none => rfl
  | some q => by_cases h : rewritesFt q <;> simp [h]

/-- A soft reset leaves the HCE idle (`70_reset_and_hazards.md` R343). -/
theorem softReset_seq (s : State) : (softReset s).seq = none := by
  unfold softReset abortCommand
  cases h : s.seq <;> simp [h]

/-- A soft reset keeps the parameters, CTRL, the ports and the model's inputs and schedule (`70_reset_and_hazards.md` R343). -/
theorem softReset_frame (s : State) :
    (softReset s).params = s.params ∧ (softReset s).ctrl = s.ctrl ∧ (softReset s).rdata = s.rdata ∧
      (softReset s).rstN = s.rstN ∧ (softReset s).inputs = s.inputs ∧ (softReset s).sched = s.sched := by
  unfold softReset abortCommand
  cases s.seq with
  | none => exact ⟨rfl, rfl, rfl, rfl, rfl, rfl⟩
  | some q => by_cases h : rewritesFt q <;> simp [h]

/-- The offset of an address depends on its number alone, however it is named (`00_scope.md` R8; log 7). -/
theorem windowOffset_eq (p : Params) (addr : HostAddr) :
    windowOffset p addr =
      if p.hceBase ≤ addr.toNat p ∧ addr.toNat p < p.hceBase + 4096 then
        some (BitVec.ofNat 12 (addr.toNat p - p.hceBase))
      else none := by
  cases addr with
  | number a => rfl
  | window off =>
    have h : off.toNat < 4096 := off.isLt
    simp [windowOffset, HostAddr.toNat, hostAddress, h]

/-- An address of the window has the offset it was made from (`00_scope.md` R8). -/
theorem windowOffset_of_toNat {p : Params} {addr : HostAddr} {off : Offset}
    (h : addr.toNat p = p.hceBase + off.toNat) : windowOffset p addr = some off := by
  have hl : off.toNat < 4096 := off.isLt
  simp [windowOffset_eq, h, hl]

/-- An access has no offset exactly where its address lies outside the window (`00_scope.md` R8). -/
theorem windowOffset_none_iff {p : Params} {addr : HostAddr} :
    windowOffset p addr = none ↔ addr.toNat p < p.hceBase ∨ p.hceBase + 4096 ≤ addr.toNat p := by
  rw [windowOffset_eq]
  split <;> simp <;> omega

/-- Where a next state is reached, the fetched instruction, if any, answers it; else the fetch has reached it. -/
theorem step_next_cases {s t : State} (h : step s = .next t) :
    (∃ i u, fetch s = .run i u ∧ exec i u = .next t) ∨ fetch s = .still t := by
  unfold step at h
  split at h
  · exact .inl ⟨_, _, ‹_›, h⟩
  · cases h; exact .inr ‹_›
  · cases h

/-- A bus operation is never a command: the two families are apart (`00_scope.md` R2). -/
theorem decodeRead_isCommand (off : Offset) : (decodeRead off).isCommand = false := by
  unfold decodeRead
  split <;> try rfl
  split
  · rfl
  · split <;> rfl

theorem decodeWrite_isCommand (off : Offset) (d : Word) : (decodeWrite off d).isCommand = false := by
  unfold decodeWrite
  split <;> try rfl
  split
  · rfl
  · split <;> rfl

theorem decodeBus_isCommand (b : BusWord) : (decodeBus b).isCommand = false := by
  unfold decodeBus
  split
  · exact decodeWrite_isCommand _ _
  · exact decodeRead_isCommand _

/-- Every command word decodes to a command (`30_encoding.md` R112). -/
theorem decodeCmd_isCommand (w : Word) : (decodeCmd w).isCommand = true := by
  unfold decodeCmd
  split <;> rfl

end Sys2Proof.Machine
end

