-- ==== Sys2Proof/Laws/PerInstr.lean ====
section
/-! SUPPORT. Statements for all instructions, one lemma per constructor. EncodedLength: a command is encoded in 4 bytes, a bus
operation in 7 (`30_encoding.md` R110, R115; log 12). -/

namespace Sys2Proof.Laws.EncodedLength

/-- A command takes one 32-bit word, a bus operation one record. -/
def Statement (i : Instr) : Prop := (encodeBytes i).length = if i.isCommand then 4 else 7

theorem nop : Statement .nop := rfl
theorem ftClear : Statement .ftClear := rfl
theorem build : Statement .build := rfl
theorem gen : Statement .gen := rfl
theorem hdrWrite : Statement .hdrWrite := rfl
theorem hdrParse : Statement .hdrParse := rfl
theorem encode : Statement .encode := rfl
theorem decode : Statement .decode := rfl
theorem flush : Statement .flush := rfl
theorem illegalCmd (word : Word) : Statement (.illegalCmd word) := rfl
theorem rdId : Statement .rdId := rfl
theorem wrId (data : Word) : Statement (.wrId data) := rfl
theorem rdVersion : Statement .rdVersion := rfl
theorem wrVersion (data : Word) : Statement (.wrVersion data) := rfl
theorem rdCtrl : Statement .rdCtrl := rfl
theorem wrCtrl (data : Word) : Statement (.wrCtrl data) := rfl
theorem rdStatus : Statement .rdStatus := rfl
theorem wrStatus (data : Word) : Statement (.wrStatus data) := rfl
theorem rdErrcode : Statement .rdErrcode := rfl
theorem wrErrcode (data : Word) : Statement (.wrErrcode data) := rfl
theorem rdErrinfo : Statement .rdErrinfo := rfl
theorem wrErrinfo (data : Word) : Statement (.wrErrinfo data) := rfl
theorem rdCmd : Statement .rdCmd := rfl
theorem wrCmd (data : Word) : Statement (.wrCmd data) := rfl
theorem rdAck : Statement .rdAck := rfl
theorem wrAck (data : Word) : Statement (.wrAck data) := rfl
theorem rdInData : Statement .rdInData := rfl
theorem wrInData (data : Word) : Statement (.wrInData data) := rfl
theorem rdOutData : Statement .rdOutData := rfl
theorem wrOutData (data : Word) : Statement (.wrOutData data) := rfl
theorem rdInRemain : Statement .rdInRemain := rfl
theorem wrInRemain (data : Word) : Statement (.wrInRemain data) := rfl
theorem rdInLevel : Statement .rdInLevel := rfl
theorem wrInLevel (data : Word) : Statement (.wrInLevel data) := rfl
theorem rdOutLevel : Statement .rdOutLevel := rfl
theorem wrOutLevel (data : Word) : Statement (.wrOutLevel data) := rfl
theorem rdNsym : Statement .rdNsym := rfl
theorem wrNsym (data : Word) : Statement (.wrNsym data) := rfl
theorem rdRoot : Statement .rdRoot := rfl
theorem wrRoot (data : Word) : Statement (.wrRoot data) := rfl
theorem rdSymcntLo : Statement .rdSymcntLo := rfl
theorem wrSymcntLo (data : Word) : Statement (.wrSymcntLo data) := rfl
theorem rdSymcntHi : Statement .rdSymcntHi := rfl
theorem wrSymcntHi (data : Word) : Statement (.wrSymcntHi data) := rfl
theorem rdTbitsLo : Statement .rdTbitsLo := rfl
theorem wrTbitsLo (data : Word) : Statement (.wrTbitsLo data) := rfl
theorem rdTbitsHi : Statement .rdTbitsHi := rfl
theorem wrTbitsHi (data : Word) : Statement (.wrTbitsHi data) := rfl
theorem rdMaxlen : Statement .rdMaxlen := rfl
theorem wrMaxlen (data : Word) : Statement (.wrMaxlen data) := rfl
theorem rdPad : Statement .rdPad := rfl
theorem wrPad (data : Word) : Statement (.wrPad data) := rfl
theorem rdDcountLo : Statement .rdDcountLo := rfl
theorem wrDcountLo (data : Word) : Statement (.wrDcountLo data) := rfl
theorem rdDcountHi : Statement .rdDcountHi := rfl
theorem wrDcountHi (data : Word) : Statement (.wrDcountHi data) := rfl
theorem rdCtSel : Statement .rdCtSel := rfl
theorem wrCtSel (data : Word) : Statement (.wrCtSel data) := rfl
theorem rdCtLen : Statement .rdCtLen := rfl
theorem wrCtLen (data : Word) : Statement (.wrCtLen data) := rfl
theorem rdCtCode0 : Statement .rdCtCode0 := rfl
theorem wrCtCode0 (data : Word) : Statement (.wrCtCode0 data) := rfl
theorem rdCtCode1 : Statement .rdCtCode1 := rfl
theorem wrCtCode1 (data : Word) : Statement (.wrCtCode1 data) := rfl
theorem rdCtCode2 : Statement .rdCtCode2 := rfl
theorem wrCtCode2 (data : Word) : Statement (.wrCtCode2 data) := rfl
theorem rdCtCode3 : Statement .rdCtCode3 := rfl
theorem wrCtCode3 (data : Word) : Statement (.wrCtCode3 data) := rfl
theorem rdCtCode4 : Statement .rdCtCode4 := rfl
theorem wrCtCode4 (data : Word) : Statement (.wrCtCode4 data) := rfl
theorem rdCtCode5 : Statement .rdCtCode5 := rfl
theorem wrCtCode5 (data : Word) : Statement (.wrCtCode5 data) := rfl
theorem rdCtCode6 : Statement .rdCtCode6 := rfl
theorem wrCtCode6 (data : Word) : Statement (.wrCtCode6 data) := rfl
theorem rdCtCode7 : Statement .rdCtCode7 := rfl
theorem wrCtCode7 (data : Word) : Statement (.wrCtCode7 data) := rfl
theorem rdNdSel : Statement .rdNdSel := rfl
theorem wrNdSel (data : Word) : Statement (.wrNdSel data) := rfl
theorem rdNdInfo : Statement .rdNdInfo := rfl
theorem wrNdInfo (data : Word) : Statement (.wrNdInfo data) := rfl
theorem rdNdChild : Statement .rdNdChild := rfl
theorem wrNdChild (data : Word) : Statement (.wrNdChild data) := rfl
theorem rdNdWLo : Statement .rdNdWLo := rfl
theorem wrNdWLo (data : Word) : Statement (.wrNdWLo data) := rfl
theorem rdNdWHi : Statement .rdNdWHi := rfl
theorem wrNdWHi (data : Word) : Statement (.wrNdWHi data) := rfl
theorem rdFt (sym : Byte) : Statement (.rdFt sym) := rfl
theorem wrFt (sym : Byte) (data : Word) : Statement (.wrFt sym data) := rfl
theorem rdReservedHigh (off : Offset) : Statement (.rdReservedHigh off) := rfl
theorem rdReservedLow (off : Offset) : Statement (.rdReservedLow off) := rfl
theorem wrReservedHigh (off : Offset) (data : Word) : Statement (.wrReservedHigh off data) := rfl
theorem wrReservedLow (off : Offset) (data : Word) : Statement (.wrReservedLow off data) := rfl

end Sys2Proof.Laws.EncodedLength
end

