-- ==== Sys2Proof/Laws/Step.lean ====
section
/-! SUPPORT. Everything one step of the machine can do, said once (`20_memory.md` R88). -/

namespace Sys2Proof.Machine

/-- The package's machine is the one of the default parameters (`00_scope.md` R8; log 7). -/
theorem core_eq_coreWith : Sys2Proof.core = coreWith Params.default := rfl

/-- A step that goes on is a bus operation, a command's step, a step of an agent with nothing to do, or the reset pin. -/
theorem step_cases {s t : State} (h : step s = .next t) :
    (∃ i inp, i.isCommand = false ∧ s.rstN = true ∧ exec i { s with sched := s.sched.tail, inputs := inp } = .next t) ∨
      (∃ q, s.seq = some q ∧ s.rstN = true ∧ exec (decodeCmd q.word) { s with sched := s.sched.tail } = .next t) ∨
      t = { s with sched := s.sched.tail } ∨
      ∃ level inp, t = setResetPin { s with sched := s.sched.tail, inputs := inp } level := by
  have hti : (tick s).inputs = s.inputs := rfl
  have htq : (tick s).seq = s.seq := rfl
  have htr : (tick s).rstN = s.rstN := rfl
  have hI : s.inputs = [] ∨ ∃ x rest, s.inputs = x :: rest := by cases s.inputs <;> simp
  have hQ : s.seq = none ∨ ∃ q, s.seq = some q := by cases s.seq <;> simp
  unfold step fetch at h
  cases ha : nextAgent s <;> simp only [ha] at h
  · unfold fetchHost at h
    rcases hI with hi | ⟨x, rest, hi⟩
    · simp only [hti, hi, Host.Outcome.next.injEq] at h
      exact .inr (.inr (.inl h.symm))
    · cases x with
      | resetPin l =>
        simp only [hti, hi, Host.Outcome.next.injEq] at h
        exact .inr (.inr (.inr ⟨l, rest, h.symm⟩))
      | access a =>
        simp only [hti, hi, fetchAccess] at h
        by_cases hr : s.rstN = true
        · rw [if_neg (by simp [hr])] at h
          have hW : windowOffset (tick s).params a.addr = none ∨ ∃ off, windowOffset (tick s).params a.addr = some off := by
            cases windowOffset (tick s).params a.addr <;> simp
          rcases hW with hw | ⟨off, hw⟩
          · simp only [hw] at h
            cases h
          · simp only [hw] at h
            exact .inl ⟨_, rest, decodeBus_isCommand _, hr, h⟩
        · rw [if_pos (by simp [hr])] at h
          simp at h
  · unfold fetchEngine at h
    rcases hQ with hq | ⟨q, hq⟩
    · simp only [htq, hq, Host.Outcome.next.injEq] at h
      exact .inr (.inr (.inl h.symm))
    · simp only [htq, hq, htr] at h
      by_cases hr : s.rstN = true
      · simp only [hr, if_true] at h
        exact .inr (.inl ⟨q, hq, hr, h⟩)
      · rw [if_neg hr] at h
        cases h
        exact .inr (.inr (.inl rfl))

end Sys2Proof.Machine
end

