-- ==== Sys2Proof/Laws/Tables.lean ====
section
/-! SUPPORT. The laws of the tables: a read after a write, the length of laid-over arenas, the size of the queue. -/

namespace Sys2Proof.Machine

@[simp] theorem ftGet_ftSet_same (ft : Vector Word 256) (sym : Byte) (c : Word) : ftGet (ftSet ft sym c) sym = c := by
  simp [ftGet, ftSet]

@[simp] theorem ftGet_ftSet_other (ft : Vector Word 256) {a b : Byte} (c : Word) (h : a ≠ b) :
    ftGet (ftSet ft a c) b = ftGet ft b := by
  have : a.toNat ≠ b.toNat := fun e => h (BitVec.eq_of_toNat_eq e)
  simp [ftGet, ftSet, this]

@[simp] theorem ftGet_clear (sym : Byte) : ftGet (Vector.replicate 256 0#32) sym = 0#32 := by simp [ftGet]

@[simp] theorem codeAt_codeSet_same (ct : Vector CodeEntry 256) (sym : Byte) (e : CodeEntry) :
    codeAt (codeSet ct sym e) sym = e := by
  simp [codeAt, codeSet]

@[simp] theorem codeAt_codeSet_other (ct : Vector CodeEntry 256) {a b : Byte} (e : CodeEntry) (h : a ≠ b) :
    codeAt (codeSet ct a e) b = codeAt ct b := by
  have : a.toNat ≠ b.toNat := fun e => h (BitVec.eq_of_toNat_eq e)
  simp [codeAt, codeSet, this]

@[simp] theorem codeAt_emptyCodes (sym : Byte) : codeAt emptyCodes sym = { len := 0, code := 0 } := by
  simp [codeAt, emptyCodes]

/-- A laid-over list shows the nodes where there are nodes. -/
theorem overlay_getElem? (nodes old : List Node) (i : Nat) (hi : i < nodes.length) (ho : i < old.length) :
    (overlay nodes old)[i]? = nodes[i]? := by
  induction nodes generalizing old i with
  | nil => simp at hi
  | cons n ns ih =>
    cases old with
    | nil => simp at ho
    | cons o os =>
      cases i with
      | zero => simp [overlay]
      | succ k => simpa [overlay] using ih os k (by simpa using hi) (by simpa using ho)

/-- The least key of a queue is one of its keys. -/
theorem foldl_keyMin_mem (l : List Key) (a : Key) : l.foldl keyMin a ∈ a :: l := by
  induction l generalizing a with
  | nil => simp
  | cons b bs ih =>
    have hmin : keyMin a b = a ∨ keyMin a b = b := by
      unfold keyMin
      split <;> simp
    rcases hmin with h | h <;> have hmem := ih (keyMin a b) <;> rw [h] at hmem <;> simp only [List.foldl_cons, h]
      <;> rcases List.mem_cons.mp hmem with e | e <;> simp [e]

/-- ExtractMin takes one element out of the queue. -/
theorem extractMin_length {q rest : List Key} {m : Key} (h : extractMin q = some (m, rest)) :
    rest.length + 1 = q.length := by
  cases q with
  | nil => simp [extractMin] at h
  | cons k ks =>
    simp only [extractMin, Option.some.injEq, Prod.mk.injEq] at h
    obtain ⟨hm, rfl⟩ := h
    rw [List.length_erase_of_mem (foldl_keyMin_mem ks k)]
    simp

/-- ExtractMin answers on every queue that is not empty. -/
theorem extractMin_isSome {q : List Key} (h : q ≠ []) : (extractMin q).isSome = true := by
  cases q with
  | nil => exact absurd rfl h
  | cons k ks => rfl

end Sys2Proof.Machine
end

