-- ==== Sys2Proof/Machine/HostAsm.lean ====
section
/-! DEFINITION. Host programs (`30_encoding.md` R140 to R146): the pseudo-instructions, their expansion into bus operations and
host code, and a host that runs such a program against the HCE. Host variables are host state, not HCE state (R140; log 23). -/

namespace Sys2Proof.Machine

/-- One line of host code after expansion; targets are line numbers. `wr` and `rd` are the two machine operations. -/
inductive HostLine where
  | wr (off : Offset) (value : Word)
  | rd (off : Offset) (var : Nat)
  /-- `i <- 0`, with the bytes to send -/
  | load (bytes : List Byte)
  /-- `i <- 0`, with the bytes an earlier XFER left unsent -/
  | loadRest
  /-- `WR off, bytes[i]; i <- i + 1` -/
  | wrNext (off : Offset)
  /-- `if var[8] == 1: append var[7:0] to out` -/
  | collect (var out : Nat)
  | jump (target : Nat)
  /-- `goto target` when each listed bit of each listed variable has the listed value -/
  | jumpIf (conds : List (Nat × Nat × Bool)) (target : Nat)
  /-- `goto target` when every byte is sent -/
  | jumpIfSent (target : Nat)
  deriving DecidableEq, Repr

/-- One line of host assembly (`30_encoding.md` R140 to R145). -/
inductive HostOp where
  | wr (off : Offset) (value : Word)
  | rd (off : Offset) (var : Nat)
  | wait
  | cmd (command : Instr)
  | run (command : Instr)
  | ftset (sym : Byte) (count : Word)
  | push (bytes : List Byte)
  | xfer (bytes : List Byte) (out : Nat)
  | xferRest (out : Nat)
  | check
  | clear
  deriving DecidableEq, Repr

/-- The host variables the expansions use: st, d, ec, ei. -/
abbrev varSt : Nat := 0

/-- The variable `d` of XFER. -/
abbrev varD : Nat := 1

/-- The variable `ec` of CHECK. -/
abbrev varEc : Nat := 2

/-- The variable `ei` of CHECK. -/
abbrev varEi : Nat := 3

/-- `WAIT` (`30_encoding.md` R141). -/
def expandWait (base : Nat) : List HostLine := [.rd 0x00C#12 varSt, .jumpIf [(varSt, 0, true)] base]

/-- `CMD <mnemonic>` (`30_encoding.md` R142); a bus operation is no command and expands to nothing. -/
def expandCmd (command : Instr) : List HostLine :=
  match encode command with
  | .cmd w => [.wr 0x018#12 w]
  | .bus _ => []

/-- `RUN <mnemonic>`: `CMD <mnemonic>` followed by `WAIT` (`30_encoding.md` R142). -/
def expandRun (base : Nat) (command : Instr) : List HostLine :=
  expandCmd command ++ expandWait (base + (expandCmd command).length)

/-- `PUSH b0, …, bk` (`30_encoding.md` R143). -/
def expandPush (base : Nat) (bytes : List Byte) : List HostLine :=
  match bytes with
  | [] => []
  | b :: rest =>
    .rd 0x00C#12 varSt :: .jumpIf [(varSt, 6, true)] base :: .wr 0x020#12 (zext32 b) :: expandPush (base + 3) rest

/-- The loop of `XFER`, after its `i <- 0` at line `base` (`30_encoding.md` R144). -/
def expandXferLoop (base out : Nat) : List HostLine :=
  [.rd 0x00C#12 varSt, .jumpIf [(varSt, 0, false), (varSt, 7, true)] (base + 9), .jumpIfSent (base + 6),
    .jumpIf [(varSt, 6, true)] (base + 6), .wrNext 0x020#12, .rd 0x024#12 varD, .collect varD out, .jump (base + 1)]

/-- `CHECK` (`30_encoding.md` R145). -/
def expandCheck (base : Nat) : List HostLine :=
  [.rd 0x00C#12 varSt, .jumpIf [(varSt, 1, false)] (base + 4), .rd 0x010#12 varEc, .rd 0x014#12 varEi]

/-- The expansion of one line placed at line `base` (`30_encoding.md` R146). -/
def expandOp (base : Nat) (op : HostOp) : List HostLine :=
  match op with
  | .wr off v => [.wr off v]
  | .rd off var => [.rd off var]
  | .wait => expandWait base
  | .cmd c => expandCmd c
  | .run c => expandRun base c
  | .ftset s c => [.wr (ftOffset s) c]
  | .push bytes => expandPush base bytes
  | .xfer bytes out => .load bytes :: expandXferLoop base out
  | .xferRest out => .loadRest :: expandXferLoop base out
  | .check => expandCheck base
  | .clear => [.wr 0x01C#12 0x7#32]

/-- The expansion of a host program from line `base` on (`30_encoding.md` R146). -/
def expandFrom (base : Nat) (ops : List HostOp) : List HostLine :=
  match ops with
  | [] => []
  | op :: rest => expandOp base op ++ expandFrom (base + (expandOp base op).length) rest

/-- What the host is waiting for: nothing, the end of a write, or a read result for a variable. -/
inductive HostWait where
  | ready
  | write
  | read (var : Nat)
  deriving DecidableEq, Repr

/-- The state of a host that runs a program: its line, its variables and byte lists by number (`30_encoding.md` R140). -/
structure HostState where
  line  : Nat
  wait  : HostWait
  vars  : List (Nat × Word)
  bytes : List Byte
  outs  : List (Nat × List Byte)
  deriving DecidableEq, Repr

/-- The host before its first line. -/
def HostState.start : HostState := { line := 0, wait := .ready, vars := [], bytes := [], outs := [] }

/-- The value of a host variable, 0 before it is bound. -/
def HostState.var (h : HostState) (v : Nat) : Word := (h.vars.lookup v).getD 0

/-- The bytes collected in an output list. -/
def HostState.out (h : HostState) (n : Nat) : List Byte := (h.outs.lookup n).getD []

/-- A variable bound to a value. -/
def HostState.bind (h : HostState) (v : Nat) (x : Word) : HostState :=
  { h with vars := (v, x) :: h.vars.filter fun p => p.1 != v }

/-- One byte appended to an output list. -/
def HostState.append (h : HostState) (n : Nat) (b : Byte) : HostState :=
  { h with outs := (n, h.out n ++ [b]) :: h.outs.filter fun p => p.1 != n }

/-- A bus access handed to the HCE as the host's last pending input. -/
def issue (s : State) (write : Bool) (off : Offset) (data : Word) : State :=
  { s with
    inputs := s.inputs ++ [.access { addr := .window off, write := write, strobe := 0xF#4, data := data }] }

/-- The host's next line, when it is ready for one. -/
def runLine (line : HostLine) (h : HostState) (s : State) : HostState × State :=
  let next := { h with line := h.line + 1 }
  match line with
  | .wr off v => ({ next with wait := .write }, issue s true off v)
  | .rd off var => ({ next with wait := .read var }, issue s false off 0#32)
  | .load bytes => ({ next with bytes := bytes }, s)
  | .loadRest => (next, s)
  | .wrNext off =>
    match h.bytes with
    | [] => (next, s)
    | b :: rest => ({ next with bytes := rest, wait := .write }, issue s true off (zext32 b))
  | .collect var out => (if (h.var var).getLsbD 8 then next.append out (byteOfData (h.var var)) else next, s)
  | .jump t => ({ h with line := t }, s)
  | .jumpIf conds t =>
    (if conds.all fun c => (h.var c.1).getLsbD c.2.1 == c.2.2 then { h with line := t } else next, s)
  | .jumpIfSent t => (if h.bytes.isEmpty then { h with line := t } else next, s)

/-- The host once its access has taken place: a read binds its variable. -/
def finishAccess (h : HostState) (s : State) : HostState :=
  match h.wait with
  | .ready => h
  | .write => { h with wait := .ready }
  | .read v => { h.bind v s.rdata with wait := .ready }

/-- One step of host and HCE together: a ready host runs a line; otherwise the HCE steps, and the host goes on once no
access is pending. A host past its last line lets the HCE step. -/
def systemStep (prog : List HostLine) (h : HostState) (s : State) : Host.Outcome (HostState × State) Fault Refusal :=
  match h.wait, prog[h.line]? with
  | .ready, some line => .next (runLine line h s)
  | _, _ =>
    match step s with
    | .next t => .next (if t.inputs.isEmpty then finishAccess h t else h, t)
    | .fault r => .fault r
    | .refused r => .refused r

end Sys2Proof.Machine
end

