-- ==== Sys2Proof/Tests/Slice0.lean ====
section
/-! SUPPORT. Tests and witnesses. Expected values come from `95_test_vectors.md` (the vector is named beside each test) or from
the encodings of `30_encoding.md` and `10_state.md`. A theorem `witness_X` shows a state and operands that meet the
hypotheses of the statement `Obligations.X`, clause by clause. -/

namespace Sys2Proof.Machine

/-! ### Ill-formed terms are refused (`30_encoding.md` R114, `10_state.md` R49) -/

theorem test_illformed_illegal_word : (Instr.illegalCmd 0x00000008#32).wellFormed = false := by decide
theorem test_illformed_reserved_low_register : (Instr.rdReservedLow 0x094#12).wellFormed = false := by decide
theorem test_illformed_reserved_low_unaligned : (Instr.rdReservedLow 0x099#12).wellFormed = false := by decide
theorem test_illformed_reserved_low_ft : (Instr.wrReservedLow 0x400#12 0#32).wellFormed = false := by decide
theorem test_illformed_reserved_high_ft : (Instr.wrReservedHigh 0x7FC#12 0#32).wellFormed = false := by decide
theorem test_illformed_reserved_high_unaligned : (Instr.rdReservedHigh 0xFFE#12).wellFormed = false := by decide

/-! ### Decoding of written-out words -/

/-- The words of `30_encoding.md` R113, and illegal ones of R114 (OPCODE 0x09, 0xFF; RSVD bit 8, bit 31). -/
theorem test_decode_command_words :
    decodeCmd 0b00000000000000000000000000000000#32 = .nop ∧
    decodeCmd 0b00000000000000000000000000000001#32 = .ftClear ∧
    decodeCmd 0b00000000000000000000000000000010#32 = .build ∧
    decodeCmd 0b00000000000000000000000000000011#32 = .gen ∧
    decodeCmd 0b00000000000000000000000000000100#32 = .hdrWrite ∧
    decodeCmd 0b00000000000000000000000000000101#32 = .hdrParse ∧
    decodeCmd 0b00000000000000000000000000000110#32 = .encode ∧
    decodeCmd 0b00000000000000000000000000000111#32 = .decode ∧
    decodeCmd 0b00000000000000000000000000001000#32 = .flush ∧
    decodeCmd 0b00000000000000000000000000001001#32 = .illegalCmd 0x9#32 ∧
    decodeCmd 0b00000000000000000000000011111111#32 = .illegalCmd 0xFF#32 ∧
    decodeCmd 0b00000000000000000000000100000000#32 = .illegalCmd 0x100#32 ∧
    decodeCmd 0b10000000000000000000000000000010#32 = .illegalCmd 0x80000002#32 := by
  decide

/-- Offsets of `10_state.md` R20, identification to ACK, bit by bit. -/
theorem test_decode_control_offsets :
    decodeRead 0b000000000000#12 = .rdId ∧
    decodeRead 0b000000000100#12 = .rdVersion ∧
    decodeRead 0b000000001000#12 = .rdCtrl ∧
    decodeRead 0b000000001100#12 = .rdStatus ∧
    decodeRead 0b000000010000#12 = .rdErrcode ∧
    decodeRead 0b000000010100#12 = .rdErrinfo ∧
    decodeRead 0b000000011000#12 = .rdCmd ∧
    decodeRead 0b000000011100#12 = .rdAck ∧
    decodeWrite 0b000000000000#12 0xA5#32 = .wrId 0xA5#32 ∧
    decodeWrite 0b000000000100#12 0xA5#32 = .wrVersion 0xA5#32 ∧
    decodeWrite 0b000000001000#12 0xA5#32 = .wrCtrl 0xA5#32 ∧
    decodeWrite 0b000000001100#12 0xA5#32 = .wrStatus 0xA5#32 ∧
    decodeWrite 0b000000010000#12 0xA5#32 = .wrErrcode 0xA5#32 ∧
    decodeWrite 0b000000010100#12 0xA5#32 = .wrErrinfo 0xA5#32 ∧
    decodeWrite 0b000000011000#12 0xA5#32 = .wrCmd 0xA5#32 ∧
    decodeWrite 0b000000011100#12 0xA5#32 = .wrAck 0xA5#32 := by
  decide

/-- Offsets of `10_state.md` R20, streams, bit by bit. -/
theorem test_decode_stream_offsets :
    decodeRead 0b000000100000#12 = .rdInData ∧
    decodeRead 0b000000100100#12 = .rdOutData ∧
    decodeRead 0b000000101000#12 = .rdInRemain ∧
    decodeRead 0b000000101100#12 = .rdInLevel ∧
    decodeRead 0b000000110000#12 = .rdOutLevel ∧
    decodeWrite 0b000000100000#12 0xA5#32 = .wrInData 0xA5#32 ∧
    decodeWrite 0b000000100100#12 0xA5#32 = .wrOutData 0xA5#32 ∧
    decodeWrite 0b000000101000#12 0xA5#32 = .wrInRemain 0xA5#32 ∧
    decodeWrite 0b000000101100#12 0xA5#32 = .wrInLevel 0xA5#32 ∧
    decodeWrite 0b000000110000#12 0xA5#32 = .wrOutLevel 0xA5#32 := by
  decide

/-- Offsets of `10_state.md` R20, results, bit by bit. -/
theorem test_decode_result_offsets :
    decodeRead 0b000000110100#12 = .rdNsym ∧
    decodeRead 0b000000111000#12 = .rdRoot ∧
    decodeRead 0b000000111100#12 = .rdSymcntLo ∧
    decodeRead 0b000001000000#12 = .rdSymcntHi ∧
    decodeRead 0b000001000100#12 = .rdTbitsLo ∧
    decodeRead 0b000001001000#12 = .rdTbitsHi ∧
    decodeRead 0b000001001100#12 = .rdMaxlen ∧
    decodeRead 0b000001010000#12 = .rdPad ∧
    decodeRead 0b000001010100#12 = .rdDcountLo ∧
    decodeRead 0b000001011000#12 = .rdDcountHi ∧
    decodeWrite 0b000000110100#12 0xA5#32 = .wrNsym 0xA5#32 ∧
    decodeWrite 0b000000111000#12 0xA5#32 = .wrRoot 0xA5#32 ∧
    decodeWrite 0b000000111100#12 0xA5#32 = .wrSymcntLo 0xA5#32 ∧
    decodeWrite 0b000001000000#12 0xA5#32 = .wrSymcntHi 0xA5#32 ∧
    decodeWrite 0b000001000100#12 0xA5#32 = .wrTbitsLo 0xA5#32 ∧
    decodeWrite 0b000001001000#12 0xA5#32 = .wrTbitsHi 0xA5#32 ∧
    decodeWrite 0b000001001100#12 0xA5#32 = .wrMaxlen 0xA5#32 ∧
    decodeWrite 0b000001010000#12 0xA5#32 = .wrPad 0xA5#32 ∧
    decodeWrite 0b000001010100#12 0xA5#32 = .wrDcountLo 0xA5#32 ∧
    decodeWrite 0b000001011000#12 0xA5#32 = .wrDcountHi 0xA5#32 := by
  decide

/-- Offsets of `10_state.md` R20, readout, bit by bit. -/
theorem test_decode_readout_offsets :
    decodeRead 0b000001011100#12 = .rdCtSel ∧
    decodeRead 0b000001100000#12 = .rdCtLen ∧
    decodeRead 0b000001100100#12 = .rdCtCode0 ∧
    decodeRead 0b000001101000#12 = .rdCtCode1 ∧
    decodeRead 0b000001101100#12 = .rdCtCode2 ∧
    decodeRead 0b000001110000#12 = .rdCtCode3 ∧
    decodeRead 0b000001110100#12 = .rdCtCode4 ∧
    decodeRead 0b000001111000#12 = .rdCtCode5 ∧
    decodeRead 0b000001111100#12 = .rdCtCode6 ∧
    decodeRead 0b000010000000#12 = .rdCtCode7 ∧
    decodeRead 0b000010000100#12 = .rdNdSel ∧
    decodeRead 0b000010001000#12 = .rdNdInfo ∧
    decodeRead 0b000010001100#12 = .rdNdChild ∧
    decodeRead 0b000010010000#12 = .rdNdWLo ∧
    decodeRead 0b000010010100#12 = .rdNdWHi ∧
    decodeWrite 0b000001011100#12 0xA5#32 = .wrCtSel 0xA5#32 ∧
    decodeWrite 0b000001100000#12 0xA5#32 = .wrCtLen 0xA5#32 ∧
    decodeWrite 0b000001100100#12 0xA5#32 = .wrCtCode0 0xA5#32 ∧
    decodeWrite 0b000001101000#12 0xA5#32 = .wrCtCode1 0xA5#32 ∧
    decodeWrite 0b000001101100#12 0xA5#32 = .wrCtCode2 0xA5#32 ∧
    decodeWrite 0b000001110000#12 0xA5#32 = .wrCtCode3 0xA5#32 ∧
    decodeWrite 0b000001110100#12 0xA5#32 = .wrCtCode4 0xA5#32 ∧
    decodeWrite 0b000001111000#12 0xA5#32 = .wrCtCode5 0xA5#32 ∧
    decodeWrite 0b000001111100#12 0xA5#32 = .wrCtCode6 0xA5#32 ∧
    decodeWrite 0b000010000000#12 0xA5#32 = .wrCtCode7 0xA5#32 ∧
    decodeWrite 0b000010000100#12 0xA5#32 = .wrNdSel 0xA5#32 ∧
    decodeWrite 0b000010001000#12 0xA5#32 = .wrNdInfo 0xA5#32 ∧
    decodeWrite 0b000010001100#12 0xA5#32 = .wrNdChild 0xA5#32 ∧
    decodeWrite 0b000010010000#12 0xA5#32 = .wrNdWLo 0xA5#32 ∧
    decodeWrite 0b000010010100#12 0xA5#32 = .wrNdWHi 0xA5#32 := by
  decide

/-- The FT window, 0x400 + 4·s, and the reserved ranges at their ends (`10_state.md` R20, R49). -/
theorem test_decode_table_and_reserved_offsets :
    decodeRead 0b010000000000#12 = .rdFt 0x00#8 ∧ decodeRead 0b011111111100#12 = .rdFt 0xFF#8 ∧
    decodeWrite 0b010100000100#12 5#32 = .wrFt 0x41#8 5#32 ∧
    decodeRead 0b000010011000#12 = .rdReservedLow 0x098#12 ∧ decodeRead 0b001111111100#12 = .rdReservedLow 0x3FC#12 ∧
    decodeWrite 0b000100000000#12 5#32 = .wrReservedLow 0x100#12 5#32 ∧
    decodeRead 0b100000000000#12 = .rdReservedHigh 0x800#12 ∧
    decodeWrite 0b111111111100#12 5#32 = .wrReservedHigh 0xFFC#12 5#32 := by
  decide

/-- Rows of the opcode table: a command word of 32 bits, an offset of 16 bits read, a whole bus record written (log 12). -/
theorem test_table_words :
    decodeTableWord 32 0x00000002 = some .build ∧ decodeTableWord 16 0x00C = some .rdStatus ∧
    decodeTableWord 16 0x800 = some (.rdReservedHigh 0x800#12) ∧
    decodeTableWord 56 (2 ^ 48 + 0x0002 * 2 ^ 16 + 0x008) = some (.wrCtrl 2#32) := by
  decide

/-! ### States for the tests, built by hand -/

/-- A frequency table with the given counts and 0 elsewhere. -/
def tFt (counts : List (Byte × Word)) : Vector Word 256 :=
  counts.foldl (fun ft e => ftSet ft e.1 e.2) (Vector.replicate 256 0#32)

/-- The reset state of a machine with its window at 0x1000, with empty tables. -/
def tZero : State :=
  { State.resetWith { ififoDepth := 32, ofifoDepth := 32, hceBase := 0x1000 } with
    ft := tFt [], arena := Vector.replicate 511 default, ct := emptyCodes }

/-- A running command at a position. -/
def tAt (s : State) (w : Word) (p : Pos) : State := { s with seq := some { word := w, consumed := 0, pos := p } }

/-- The state an outcome reaches. -/
def tNext (r : Result) : State :=
  match r with
  | .next t => t
  | .fault _ => State.reset
  | .refused _ => State.reset

/-- A leaf and an internal node. -/
def tLeaf (sym : Byte) (w : BitVec 40) : Node := { leaf := true, sym := sym, w := w, left := 0, right := 0 }
def tFork (w : BitVec 40) (l r : NodeIx) : Node := { leaf := false, sym := 0, w := w, left := l, right := r }

/-- The table of vector T1, {A: 5, B: 3, C: 2}. -/
def tFtABC : Vector Word 256 := tFt [(0x41, 5), (0x42, 3), (0x43, 2)]

/-- T1's tree, from `42_tree_builder.md` R223. -/
def tTree : State :=
  { tZero with
    ft := tFtABC, root := 4, nsym := 3, symcnt := 10, treeValid := true
    arena := writeArena [tLeaf 0x41 5, tLeaf 0x42 3, tLeaf 0x43 2, tFork 5 2 1, tFork 10 0 3] tZero.arena }

/-- T1's tree with G1's codes: A 0, B 11, C 10. -/
def tCodes : State :=
  { tTree with
    ctValid := true, tbits := 15, maxlen := 2
    ct := codeSet (codeSet (codeSet emptyCodes 0x41 { len := 1, code := 0 }) 0x42 { len := 2, code := 3 }) 0x43
      { len := 2, code := 2 } }

/-- T2's single-leaf tree, {A: 4}. -/
def tSingle : State :=
  { tZero with
    ft := tFt [(0x41, 4)], root := 0, nsym := 1, symcnt := 4, treeValid := true
    arena := writeArena [tLeaf 0x41 4] tZero.arena }

/-! ### Bus operations -/

/-- R8, R85: the ends of a window at 0x1000, the addresses beside it, and the two names of one address. -/
theorem test_window :
    windowOffset tZero.params (.number 0x1000) = some 0x000#12 ∧ windowOffset tZero.params (.number 0x1FFF) = some 0xFFF#12 ∧
    windowOffset tZero.params (.number 0x0FFF) = none ∧ windowOffset tZero.params (.number 0x2000) = none ∧
    (HostAddr.window 0x504#12).toNat tZero.params = 0x1504 := by decide

/-- R19: an access outside the window is refused, and nothing faults. -/
theorem test_access_outside_window :
    step { tZero with inputs := [.access { addr := .number 0x2000, write := true, strobe := 0xF, data := 1 }] } =
      .refused .outsideWindow := by rfl

/-- B1. -/
theorem test_read_id_and_version :
    (tNext (exec .rdId tZero)).rdata = 0x48434531#32 ∧ (tNext (exec .rdVersion tZero)).rdata = 1#32 := by decide

/-- B2. -/
theorem test_read_ctrl_and_status_after_reset :
    (tNext (exec .rdCtrl State.reset)).rdata = 0x4#32 ∧ (tNext (exec .rdStatus State.reset)).rdata = 0xA0#32 := by decide

/-- B3: address bits 1:0 are ignored. -/
theorem test_write_at_unaligned_address :
    ctrlWord (tNext (step (tZero.withCode (busWrite 0x00B#12 0x2#32)))).ctrl = 0x2#32 := by decide

/-- B4. -/
theorem test_write_ctrl :
    ctrlWord (tNext (exec (.wrCtrl 0x1E#32) tZero)).ctrl = 0x1E#32 ∧
    statusWord (tNext (exec (.wrCtrl 0x1E#32) tZero)) = 0xA0#32 := by decide

/-- B21: SRST keeps the FT. -/
theorem test_write_ctrl_soft_reset :
    ctrlWord (tNext (exec (.wrCtrl 0x3#32) tTree)).ctrl = 0x2#32 ∧
    statusWord (tNext (exec (.wrCtrl 0x3#32) tTree)) = 0xA0#32 ∧
    ftGet (tNext (exec (.wrCtrl 0x3#32) tTree)).ft 0x41 = 5#32 := by decide +kernel

/-- B8, B10: ACK with all three bits. -/
theorem test_write_ack :
    let t := tNext (exec (.wrAck 0x7#32) (tNext (exec (.wrCmd 0x9#32) tZero)))
    statusWord t = 0xA0#32 ∧ t.errcode = 0#8 ∧ t.errinfo = 0#32 := by decide

/-- B8: an illegal word. -/
theorem test_write_cmd_illegal :
    let t := tNext (exec (.wrCmd 0x9#32) tZero)
    statusWord t = 0xA6#32 ∧ t.errcode = 0x01#8 ∧ t.errinfo = 0x9#32 := by decide

/-- B9, K6: a command dropped while ERR = 1. -/
theorem test_write_cmd_dropped :
    let t := tNext (exec (.wrCmd 0x1#32) { tTree with err := true, done := true, errcode := 1, errinfo := 9 })
    statusWord t = 0x2AE#32 ∧ ftGet t.ft 0x41 = 5#32 := by decide +kernel

/-- B6: only the low byte is pushed. -/
theorem test_write_in_data :
    (tNext (exec (.wrInData 0x141#32) tZero)).inFifo = [0x41#8] ∧
    statusWord (tNext (exec (.wrInData 0x141#32) tZero)) = 0x80#32 := by decide

/-- `40_host_access.md` R158: a push on a full FIFO is dropped. -/
theorem test_write_in_data_full :
    let t := tNext (exec (.wrInData 0x42#32) { tZero with params := { Params.default with ififoDepth := 1 }, inFifo := [0x41] })
    t.inFifo = [0x41#8] ∧ t.wdrop = true := by decide

/-- B7, and `10_state.md` R36 for a byte. -/
theorem test_read_out_data :
    (tNext (exec .rdOutData tZero)).rdata = 0#32 ∧
    (tNext (exec .rdOutData { tZero with outFifo := [0xF4, 0x07] })).rdata = 0x1F4#32 ∧
    (tNext (exec .rdOutData { tZero with outFifo := [0xF4, 0x07] })).outFifo = [0x07#8] := by decide

/-- B11: read-only registers and reserved offsets. -/
theorem test_ignored_writes :
    (tNext (exec (.wrStatus 0xFFFFFFFF#32) tZero)).wdrop = false ∧
    statusWord (tNext (exec (.wrReservedLow 0x100#12 5#32) tZero)) = 0xA0#32 ∧
    (tNext (exec (.rdReservedLow 0x100#12) { tZero with rdata := 7 })).rdata = 0#32 ∧
    (tNext (exec (.rdReservedHigh 0xFFC#12) { tZero with rdata := 7 })).rdata = 0#32 := by decide

/-- B12. -/
theorem test_write_only_registers_read_zero :
    (tNext (exec .rdCmd { tZero with rdata := 7 })).rdata = 0#32 ∧
    (tNext (exec .rdAck { tZero with rdata := 7 })).rdata = 0#32 ∧
    (tNext (exec .rdInData { tZero with rdata := 7 })).rdata = 0#32 := by decide

/-- B13. -/
theorem test_in_remain :
    (tNext (exec .rdInRemain (tNext (exec (.wrInRemain 20#32) tZero)))).rdata = 20#32 := by decide

/-- B14, B15: a count written, and both valid bits cleared. -/
theorem test_write_ft :
    (tNext (exec (.rdFt 0x41) (tNext (exec (.wrFt 0x41 5#32) tZero)))).rdata = 5#32 ∧
    statusWord (tNext (exec (.wrFt 0x44 1#32) { tCodes with done := true })) = 0xA4#32 := by decide +kernel

/-- The end state of program P1, read register by register. -/
theorem test_read_results_of_P1 :
    let s := { tCodes with pad := 1, dcount := 10 }
    [Instr.rdNsym, .rdRoot, .rdSymcntLo, .rdSymcntHi, .rdTbitsLo, .rdTbitsHi, .rdMaxlen, .rdPad, .rdDcountLo,
      .rdDcountHi].map (fun i => (tNext (exec i s)).rdata) =
    [3#32, 4#32, 10#32, 0#32, 15#32, 0#32, 2#32, 1#32, 10#32, 0#32] := by decide +kernel

/-- T7, G6: the high halves. -/
theorem test_read_high_halves :
    let s := { tZero with symcnt := 0x1FFFFFFFE, tbits := 0x1FFFFFFFE }
    [Instr.rdSymcntLo, .rdSymcntHi, .rdTbitsLo, .rdTbitsHi].map (fun i => (tNext (exec i s)).rdata) =
    [0xFFFFFFFE#32, 1#32, 0xFFFFFFFE#32, 1#32] := by decide

/-- B16, B17: the code readout; symbol 0x44 has no code. -/
theorem test_read_code :
    let s := tNext (exec (.wrCtSel 0x42#32) tCodes)
    [Instr.rdCtSel, .rdCtLen, .rdCtCode0, .rdCtCode1, .rdCtCode2, .rdCtCode3, .rdCtCode4, .rdCtCode5, .rdCtCode6,
      .rdCtCode7].map (fun i => (tNext (exec i s)).rdata) =
    [0x42#32, 2#32, 3#32, 0#32, 0#32, 0#32, 0#32, 0#32, 0#32, 0#32] ∧
    (tNext (exec .rdCtLen { tCodes with ctSel := 0x44 })).rdata = 0#32 := by decide +kernel

/-- `10_state.md` R43: word `i` shows bits [32i+31:32i]. -/
theorem test_read_code_words :
    let s := { tCodes with ct := codeSet emptyCodes 0x00 { len := 255, code := 7 * 2 ^ 32 + 9 * 2 ^ 224 } }
    [Instr.rdCtLen, .rdCtCode0, .rdCtCode1, .rdCtCode6, .rdCtCode7].map (fun i => (tNext (exec i s)).rdata) =
    [255#32, 0#32, 7#32, 0#32, 9#32] := by decide +kernel

/-- B18, B19, B20: a leaf, an internal node, an index above ROOT. -/
theorem test_read_node :
    [Instr.rdNdInfo, .rdNdChild, .rdNdWLo, .rdNdWHi].map (fun i => (tNext (exec i tTree)).rdata) =
      [0x80004101#32, 0#32, 5#32, 0#32] ∧
    [Instr.rdNdSel, .rdNdInfo, .rdNdChild, .rdNdWLo].map
      (fun i => (tNext (exec i (tNext (exec (.wrNdSel 4#32) tTree)))).rdata) =
      [4#32, 0x80000000#32, 0x00030000#32, 10#32] ∧
    (tNext (exec .rdNdInfo { tTree with ndSel := 5 })).rdata = 0#32 := by decide +kernel

/-- B6's levels, and the error registers of D11. -/
theorem test_read_levels_and_errors :
    let s := { tZero with inFifo := [1, 2, 3], outFifo := [4, 5], err := true, errcode := 0x0E, errinfo := 9 }
    [Instr.rdInLevel, .rdOutLevel, .rdErrcode, .rdErrinfo].map (fun i => (tNext (exec i s)).rdata) =
    [3#32, 2#32, 0x0E#32, 9#32] := by decide

/-- B5: IRQ, and its end by ACK. -/
theorem test_irq :
    let s := tNext (exec .nop (tAt { tZero with ctrl := ctrlOfData 0x14#32 } 0x0 .start))
    statusWord s = 0x4A4#32 ∧ s.irq = true ∧ (tNext (exec (.wrAck 0x1#32) s)).irq = false := by decide

/-! ### Commands -/

/-- K1. -/
theorem test_nop : statusWord (tNext (exec .nop (tAt tZero 0x0 .start))) = 0xA4#32 := by decide

/-- K2. -/
theorem test_ft_clear :
    statusWord (tNext (exec .ftClear (tAt tCodes 0x1 .start))) = 0xA4#32 ∧
    ftGet (tNext (exec .ftClear (tAt tCodes 0x1 .start))).ft 0x41 = 0#32 := by decide +kernel

/-- K3, one emptying a step. -/
theorem test_flush :
    let s := tAt { tZero with inFifo := [1, 2, 3], outFifo := [4, 5], inRemain := 7 } 0x8 .start
    (tNext (exec .flush s)).inFifo = [] ∧ (tNext (exec .flush s)).inRemain = 7#32 ∧
    (tNext (exec .flush (tNext (exec .flush s)))).outFifo = [] := by decide

/-- K4, K5. -/
theorem test_illegal_command :
    (tNext (exec (.illegalCmd 0x100#32) tZero)).errcode = 0x01#8 ∧
    (tNext (exec (.illegalCmd 0xFF#32) tZero)).errinfo = 0xFF#32 := by decide

/-- T1. -/
theorem test_build_T1 :
    let t := tNext (exec .build (tAt { tZero with ft := tFtABC } 0x2 .start))
    nodeAt t.arena 3 = tFork 5 2 1 ∧ nodeAt t.arena 4 = tFork 10 0 3 ∧ t.root = 4 ∧ t.nsym = 3#9 ∧ t.symcnt = 10#40 := by
  decide +kernel

/-- T5: at equal weights the leaf comes before the internal node. -/
theorem test_build_T5 :
    let t := tNext (exec .build (tAt { tZero with ft := tFt [(0x41, 1), (0x42, 1), (0x43, 2)] } 0x2 .start))
    nodeAt t.arena 3 = tFork 2 0 1 ∧ nodeAt t.arena 4 = tFork 4 2 3 := by decide +kernel

/-- G1. -/
theorem test_gen_G1 :
    let t := tNext (exec .gen (tAt tTree 0x3 .start))
    codeAt t.ct 0x41 = { len := 1, code := 0 } ∧ codeAt t.ct 0x42 = { len := 2, code := 3 } ∧
    codeAt t.ct 0x43 = { len := 2, code := 2 } ∧ codeAt t.ct 0x44 = { len := 0, code := 0 } ∧ t.tbits = 15#48 ∧
    t.maxlen = 2#8 := by decide +kernel

/-- G2, G9. -/
theorem test_gen_single_leaf_and_no_tree :
    codeAt (tNext (exec .gen (tAt tSingle 0x3 .start))).ct 0x41 = { len := 1, code := 0 } ∧
    (tNext (exec .gen (tAt tSingle 0x3 .start))).tbits = 4#48 ∧
    (tNext (exec .gen (tAt tZero 0x3 .start))).errcode = 0x03#8 := by decide +kernel

/-- H1: the header to send. -/
theorem test_header_H1 :
    (tNext (exec .hdrWrite (tAt tTree 0x4 .start))).seq.map Seq.pos =
      some (.hdrWrite [0, 3, 0x41, 0, 0, 0, 5, 0x42, 0, 0, 0, 3, 0x43, 0, 0, 0, 2]) := by decide +kernel

/-- H6, T10. -/
theorem test_empty_table_fails :
    (tNext (exec .hdrWrite (tAt tZero 0x4 .start))).errcode = 0x02#8 ∧
    (tNext (exec .hdrWrite (tAt tZero 0x4 .start))).outFifo = [] ∧
    (tNext (exec .build (tAt tZero 0x2 .start))).errcode = 0x02#8 := by decide +kernel

/-- P4, P5: N = 257, and a duplicate symbol. -/
theorem test_hdr_parse_errors :
    (tNext (exec .hdrParse (tAt tZero 0x5 (.parseCheckN 0x0101#16)))).errcode = 0x06#8 ∧
    (tNext (exec .hdrParse (tAt tZero 0x5 (.parseCheckN 0x0101#16)))).errinfo = 257#32 ∧
    (tNext (exec .hdrParse (tAt { tZero with ft := tFt [(0x41, 1)] } 0x5 (.parseCheckRecord 1 0x41 1)))).errcode = 0x07#8 := by
  decide +kernel

/-- P1's first record: the last byte of B's count gives 3. -/
theorem test_hdr_parse_record :
    let s := tNext (exec .hdrParse (tAt { tZero with inRemain := 9, inFifo := [3, 0x43] } 0x5 (.parseCount 2 0x42 3 0)))
    s.inRemain = 8#32 ∧ ftGet (tNext (exec .hdrParse s)).ft 0x42 = 3#32 := by decide +kernel

/-- E7, E10. -/
theorem test_encode_preconditions :
    let t := tNext (exec .encode (tAt { tCodes with inRemain := 9 } 0x6 .start))
    t.errcode = 0x09#8 ∧ t.errinfo = 9#32 ∧ (tNext (exec .encode (tAt tTree 0x6 .start))).errcode = 0x04#8 := by
  decide +kernel

/-- E1's first byte 01, and its last: seven bits 1111010 and one zero bit give F4. -/
theorem test_encode_bytes :
    (tNext (exec .encode (tNext (exec .encode (tAt { tCodes with inRemain := 10 } 0x6 .start))))).outFifo = [0x01#8] ∧
    (tNext (exec .encode (tAt tCodes 0x6 (.encPad
      { p := 1, left := 0, acc := [true, true, true, true, false, true, false], nbits := 15 } 1)))).outFifo =
      [0xF4#8] := by decide +kernel

/-- D7, D8: the padding header's checks. -/
theorem test_decode_pad_check :
    (tNext (exec .decode (tAt tTree 0x7 (.decCheckPad 2 9)))).errcode = 0x0C#8 ∧
    (tNext (exec .decode (tAt tTree 0x7 (.decCheckPad 1 2)))).errinfo = 2#32 := by decide +kernel

/-- D1's first bit gives A; D6's bit enters node 3; D16's fourth bit is bad. -/
theorem test_decode_bit :
    (tNext (exec .decode (tAt tTree 0x7 (.decWalk
      { p := 1, e := 15, j := 0, x := 4, cur := 0x07, nb := 8 })))).outFifo = [0x41#8] ∧
    (tNext (exec .decode (tAt tTree 0x7 (.decWalk { p := 7, e := 1, j := 0, x := 4, cur := 0x80, nb := 8 })))).seq.map
      Seq.pos = some (.decWalk { p := 7, e := 1, j := 1, x := 3, cur := 0x80, nb := 7 }) ∧
    (tNext (exec .decode (tAt tSingle 0x7 (.decWalk { p := 4, e := 4, j := 3, x := 0, cur := 0x10, nb := 5 })))).errinfo =
      3#32 := by decide +kernel

/-- The expansion of `RUN BUILD` and `FTSET 0x41, 5` (programs P1, P4; `30_encoding.md` R141, R142). -/
theorem test_host_assembly :
    expandFrom 0 [.run .build, .ftset 0x41#8 5#32] =
      [.wr 0x018#12 2#32, .rd 0x00C#12 varSt, .jumpIf [(varSt, 0, true)] 1, .wr 0x504#12 5#32] := by decide

/-! ### Witnesses -/

theorem witness_DecodeOfEncodeIsTheInstruction :
    [Instr.flush, .illegalCmd 0x00000009#32, .illegalCmd 0x00000100#32, .rdNdWHi, .wrId 0xFFFFFFFF#32, .wrFt 0xFF#8 1#32,
      .rdReservedLow 0x098#12, .wrReservedLow 0x3FC#12 1#32, .rdReservedHigh 0x800#12,
      .wrReservedHigh 0xFFC#12 1#32].all Instr.wellFormed = true := by decide

theorem witness_LowAddressBitsAndStrobesAreIgnored :
    ∃ b : BusWord, b.write = false ∧ b.off = 0xFFF#12 :=
  ⟨{ write := false, off := 0xFFF, strobe := 0, data := 1 }, by decide⟩

/-- The access clause at both ends of the window and by both names, the command clause at words 0, 8 and 9, the schedule
clause. -/
theorem witness_StepRunsTheDecodedInstruction :
    (∀ off ∈ [0x000#12, 0xFFF#12], ∀ addr ∈ [HostAddr.window off, .number (0x1000 + off.toNat)],
      ∃ s : State, ∃ a rest, nextAgent s = .host ∧ s.inputs = .access a :: rest ∧ s.rstN = true ∧ a.addr = addr ∧
        a.addr.toNat s.params = s.params.hceBase + off.toNat) ∧
    (∀ w ∈ [0#32, 8#32, 9#32], ∃ s : State, ∃ q, nextAgent s = .engine ∧ s.seq = some q ∧ q.word = w ∧ s.rstN = true) ∧
    ∃ s : State, s.sched = [Agent.engine, .host] := by
  refine ⟨?_, ?_, ⟨{ tZero with sched := [.engine, .host] }, rfl⟩⟩
  · intro off _ addr h
    refine ⟨tZero.withAccess { addr := addr, write := false, strobe := 0, data := 0 }, _, _, rfl, rfl, rfl, rfl, ?_⟩
    simp only [List.mem_cons, List.not_mem_nil, or_false] at h
    rcases h with rfl | rfl <;> rfl
  · intro w _
    exact ⟨tZero.withCommand w, _, rfl, rfl, rfl, rfl⟩

/-- A pending access at each end of a window at 0x1000, an access during reset, the next addresses below and above. -/
theorem witness_StepStopsOnlyInResetOrOutsideWindow :
    (∃ s : State, s.rstN = true ∧ s.inputs.length = 2 ∧ ∀ a, .access a ∈ s.inputs →
      s.params.hceBase ≤ a.addr.toNat s.params ∧ a.addr.toNat s.params < s.params.hceBase + 4096) ∧
    (∃ s : State, ∃ a rest, nextAgent s = .host ∧ s.inputs = .access a :: rest ∧ s.rstN = false) ∧
    ∀ n ∈ [0xFFF, 0x2000], ∃ s : State, ∃ a rest, nextAgent s = .host ∧ s.inputs = .access a :: rest ∧ s.rstN = true ∧
      a.addr = .number n ∧
      (a.addr.toNat s.params < s.params.hceBase ∨ s.params.hceBase + 4096 ≤ a.addr.toNat s.params) := by
  refine ⟨⟨(tZero.withCode (busRead 0x000#12)).withCode (busRead 0xFFF#12), rfl, rfl, ?_⟩,
    ⟨{ tZero.withCode (busRead 0#12) with rstN := false }, _, _, rfl, rfl, rfl⟩, ?_⟩
  · intro a ha
    simp only [State.withCode, busRead, State.withAccess, tZero, State.resetWith, List.mem_cons, List.not_mem_nil, or_false,
      Input.access.injEq] at ha
    rcases ha with rfl | rfl <;> decide
  · intro n h
    refine ⟨tZero.withAccess { addr := .number n, write := false, strobe := 0, data := 0 }, _, _, rfl, rfl, rfl, rfl, ?_⟩
    simp only [List.mem_cons, List.not_mem_nil, or_false] at h
    rcases h with rfl | rfl <;> decide

/-- The least depths R8 allows. -/
theorem witness_ResetMeetsTheInvariants :
    ∃ p : Params, 1 ≤ p.ififoDepth ∧ 1 ≤ p.ofifoDepth ∧ p.hceBase = 0xFFFFF000 :=
  ⟨{ ififoDepth := 1, ofifoDepth := 1, hceBase := 0xFFFFF000 }, by decide⟩

/-- The first and the last register of the list, at depths of 1. -/
theorem witness_ResetReadsAsSpecified :
    ∃ p : Params, 1 ≤ p.ififoDepth ∧ 1 ≤ p.ofifoDepth ∧
      (Instr.rdCtCode1, 0#32) ∈ [(Instr.rdId, 0x48434531#32), (.rdCtCode1, 0#32), (.rdNdWHi, 0#32)] :=
  ⟨{ ififoDepth := 1, ofifoDepth := 1, hceBase := 0 }, by decide⟩

/-- A state of each invariant with a command running, and its step. -/
theorem witness_StepKeepsBoundsAndFlags : ∃ s t : State, s.Inv ∧ s.busy = true ∧ step s = .next t :=
  ⟨tAt tZero 0x0 .start, tNext (step (tAt tZero 0x0 .start)),
    { depths := by decide, inBound := by decide, outBound := by decide, validOrder := by decide, errorClear := by decide,
      busyClear := by decide, resetIdle := by decide }, rfl, rfl⟩

theorem tTree_treeOfFt : tTree.TreeOfFt :=
  { present := by decide +kernel
    root := by decide +kernel
    nsym := by decide +kernel
    nodes := by decide +kernel
    symcnt := by decide +kernel }

theorem tCodes_codesOfTree : tCodes.CodesOfTree :=
  { codes := by decide +kernel
    tbits := by decide +kernel
    maxlen := by decide +kernel }

theorem witness_StepKeepsTablesCoherent :
    ∃ s t : State, s.Coherent ∧ s.treeValid = true ∧ s.ctValid = true ∧ step s = .next t :=
  ⟨tCodes, tNext (step tCodes),
    { validOrder := fun _ => rfl
      tree := fun _ => ⟨tTree_treeOfFt.1, tTree_treeOfFt.2, tTree_treeOfFt.3, tTree_treeOfFt.4, tTree_treeOfFt.5⟩
      codes := fun _ => tCodes_codesOfTree
      parsing := fun _ h => nomatch h }, rfl, rfl, rfl⟩

/-- E1 with its first three bits appended. -/
def tEncoding : State :=
  tAt { tCodes with inRemain := 7, inFifo := [0x41], pad := 1, sched := [.engine] } 0x6
    (.encSymbol { p := 1, left := 7, acc := [false, false, false], nbits := 3 })

theorem tEncoding_aligned : tEncoding.EncoderAligned := by
  intro q h _
  cases h
  exact ⟨rfl, rfl⟩

theorem witness_StepKeepsEncoderAligned :
    ∃ s t : State, s.EncoderAligned ∧ (∃ q, s.seq = some q ∧ decodeCmd q.word = .encode) ∧ step s = .next t :=
  ⟨tEncoding, tNext (step tEncoding), tEncoding_aligned, ⟨_, rfl, rfl⟩, rfl⟩

/-- D1 with its first byte in hand. -/
def tDecoding : State :=
  tAt { tTree with inRemain := 1, inFifo := [0xF4], pad := 1, sched := [.engine] } 0x7
    (.decWalk { p := 1, e := 15, j := 0, x := 4, cur := 0x07, nb := 8 })

theorem tDecoding_budget : tDecoding.DecoderBudget := by
  intro q h _
  cases h
  exact ⟨by decide, by decide, rfl⟩

theorem witness_StepKeepsDecoderBudget :
    ∃ s t : State, s.DecoderBudget ∧ (∃ q, s.seq = some q ∧ decodeCmd q.word = .decode) ∧ step s = .next t :=
  ⟨tDecoding, tNext (step tDecoding), tDecoding_budget, ⟨_, rfl, rfl⟩, rfl⟩

/-- Idle, and a command whose abort keeps the FT. -/
theorem witness_SoftResetClearsAllButFtAndConfiguration :
    (0x3#32).getLsbD 0 = true ∧ (∀ q, tTree.seq = some q → decodeCmd q.word ≠ .ftClear ∧ decodeCmd q.word ≠ .hdrParse) ∧
    ∀ q, tEncoding.seq = some q → decodeCmd q.word ≠ .ftClear ∧ decodeCmd q.word ≠ .hdrParse :=
  ⟨by decide, fun q h => (nomatch h), fun q h => by cases h; decide⟩

/-- Both commands whose abort frees the table, the same write with nothing running, and the pin asserted while a command runs. -/
theorem witness_ResetPinAndAbortsFreeTheTable :
    ((0x1#32).getLsbD 0 = true ∧ decodeCmd 1#32 = .ftClear ∧ decodeCmd 5#32 = .hdrParse ∧
      (tAt tTree 1#32 .start).seq = some { word := 1, consumed := 0, pos := .start } ∧
      (tAt tTree 5#32 .start).seq = some { word := 5, consumed := 0, pos := .start }) ∧
    ∃ (s : State) (rest : List Input), nextAgent s = .host ∧ s.inputs = .resetPin false :: rest ∧ s.busy = true :=
  ⟨⟨by decide, rfl, rfl, rfl, rfl⟩, { tEncoding with inputs := [.resetPin false], sched := [.host] }, _, rfl, rfl, rfl⟩

/-- Of the data words, 0x2 and 0xFFFFFFFE ask for no soft reset. -/
theorem witness_CtrlAndBudgetWritesLoadOrDrop :
    (0x2#32).getLsbD 0 = false ∧ (0xFFFFFFFE#32).getLsbD 0 = false := by decide

/-- Busy, in error, idle; SRST and not; a FIFO at its depth and one below it; an ACK with and without DONE_CLR. -/
theorem witness_WriteAcceptanceTable :
    tEncoding.busy = true ∧ { tZero with err := true }.err = true ∧ (tZero.busy = false ∧ tZero.err = false) ∧
    (0x1#32).getLsbD 0 = true ∧ (0x2#32).getLsbD 0 = false ∧
    (∃ s : State, s.inFifo.length = s.params.ififoDepth) ∧
    (∃ s : State, s.inFifo.length + 1 = s.params.ififoDepth ∧ s.inFifo.length ≠ s.params.ififoDepth) ∧
    (∃ d : Word, (tNext (exec (.wrAck d) tZero)).wdrop = false) ∧
    (tNext (exec (.wrAck 0x1#32) { tZero with wdrop := true })).wdrop = true :=
  ⟨rfl, rfl, ⟨rfl, rfl⟩, by decide, by decide,
    ⟨{ tZero with params := { Params.default with ififoDepth := 1 }, inFifo := [0] }, rfl⟩,
    ⟨{ tZero with params := { Params.default with ififoDepth := 2 }, inFifo := [0] }, rfl, by decide⟩, ⟨0, rfl⟩, rfl⟩

theorem witness_FtWriteSetsCountAndClearsValidBits :
    tEncoding.busy = true ∧ tCodes.busy = false ∧ ∃ other : Byte, other ≠ 0xFF#8 := ⟨rfl, rfl, 0x00, by decide⟩

theorem witness_ReadOnlyAndReservedWritesChangeNothing :
    [Instr.wrId 1#32, .wrNdWHi 1#32, .wrReservedLow 0x098#12 1#32, .wrReservedHigh 0xFFC#12 1#32].all ignoredWrite = true := by
  decide

/-- STATUS idle and busy, and the bits from 11 on. -/
theorem witness_CtrlAndStatusReadTheirBits : tZero.busy = false ∧ tEncoding.busy = true ∧ 11 ≤ 11 ∧ 11 ≤ 31 := by decide

theorem witness_RegistersReadableAtAnyTime : ∃ s : State, s.Inv ∧ s.err = false :=
  ⟨tZero,
    { depths := by decide, inBound := by decide, outBound := by decide, validOrder := by decide, errorClear := by decide,
      busyClear := by decide, resetIdle := by decide }, rfl⟩

theorem witness_OutDataReadPopsOldestByte :
    (∃ b rest, { tZero with outFifo := [1, 2] }.outFifo = b :: rest) ∧ tZero.outFifo = [] := ⟨⟨1, [2], rfl⟩, rfl⟩

theorem witness_ResultAndFtReadsWhileIdle : tCodes.busy = false := rfl

theorem witness_CodeReadoutWhileIdle :
    (tTree.busy = false ∧ tTree.ctValid = false) ∧ (tCodes.busy = false ∧ tCodes.ctValid = true) := by decide

/-- No tree; an index one above ROOT; ROOT itself; index 0. -/
theorem witness_NodeReadoutWhileIdle :
    (tZero.busy = false ∧ tZero.treeValid = false) ∧
    (tTree.busy = false ∧ tTree.root.val < { tTree with ndSel := 5 }.ndSel.toNat) ∧
    (tTree.treeValid = true ∧ { tTree with ndSel := 4 }.ndSel.toNat = (4 : NodeIx).val ∧ (4 : NodeIx).val ≤ tTree.root.val) ∧
    (tTree.ndSel.toNat = (0 : NodeIx).val ∧ (0 : NodeIx).val ≤ tTree.root.val) := by decide

theorem witness_BusyReadsReturnFreeWords :
    [Instr.rdNsym, .rdDcountHi, .rdCtCode7, .rdNdWHi, .rdFt 0xFF#8].all busyUnspecified = true ∧ tEncoding.busy = true := by
  decide

theorem witness_ReadsHaveNoSideEffect :
    ∃ (s t : State), isRead .rdNdInfo = true ∧ Instr.rdNdInfo ≠ .rdOutData ∧ exec .rdNdInfo s = .next t :=
  ⟨tTree, _, by decide, by decide, rfl⟩

/-- A command of every group the clauses single out (GEN without a tree among them), and a write that is no CTRL write. -/
theorem witness_CommandsChangeOnlyTheirState :
    (∀ i ∈ [Instr.nop, .build, .gen, .ftClear, .flush, .hdrParse, .hdrWrite, .encode, .decode],
      i.isCommand = true ∧ ∃ t, exec i tCodes = .next t) ∧
    ∃ t, exec (.wrFt 0#8 0#32) tCodes = .next t ∧ ∀ d, Instr.wrFt 0#8 0#32 ≠ .wrCtrl d := by
  refine ⟨?_, ⟨_, rfl, fun d h => nomatch h⟩⟩
  intro i h
  simp only [List.mem_cons, List.not_mem_nil, or_false] at h
  rcases h with rfl | rfl | rfl | rfl | rfl | rfl | rfl | rfl | rfl <;> exact ⟨rfl, _, rfl⟩

/-- A push, a pop, FLUSH and SRST. -/
theorem witness_FifosKeepTheirOrder :
    (∃ s t : State, exec (.wrInData 7#32) s = .next t) ∧ (∃ s t : State, exec .rdOutData s = .next t) ∧
    (∃ s t : State, exec .flush s = .next t) ∧ ∃ s t : State, exec (.wrCtrl 1#32) s = .next t :=
  ⟨⟨tZero, _, rfl⟩, ⟨tZero, _, rfl⟩, ⟨tZero, _, rfl⟩, ⟨tZero, _, rfl⟩⟩

theorem witness_FlushEmptiesBothFifos :
    (tAt tZero 0x8 .start).accepted 0x08 ∧ (tAt tZero 0x8 .flushOut).atPos 0x08 0 .flushOut ∧
    (tAt tZero 0x8 .flushDone).atPos 0x08 0 .flushDone := ⟨rfl, rfl, rfl⟩

/-- OPCODE 0x09, and OPCODE 0x00 with RSVD bit 8. -/
theorem witness_IllegalWordFails :
    tZero.busy = false ∧ tZero.err = false ∧ 0x08 < ((0x09#32).extractLsb' 0 8).toNat ∧ (0x100#32).extractLsb' 8 24 ≠ 0 := by
  decide

theorem tZero_empty (sym : Byte) : ftGet tZero.ft sym = 0 := ftGet_clear sym

theorem witness_BuildOfEmptyTableFails : ∀ sym, ftGet tZero.ft sym = 0 := tZero_empty

theorem witness_BuildSetsItsResults :
    ftGet tTree.ft 0x41 ≠ 0 ∧ ftGet (tFt [(0xFF, 1)]) 0xFF ≠ 0 := by decide +kernel

/-- The least and the greatest present symbol. -/
theorem witness_BuildPlacesLeavesInSymbolOrder :
    (∃ t, exec .build tTree = .next t) ∧
    (ftGet tTree.ft 0x41 ≠ 0 ∧ (0 : NodeIx).val =
      ((List.range (0x41#8).toNat).filter fun k => ftGet tTree.ft (BitVec.ofNat 8 k) != 0).length) ∧
    (ftGet tTree.ft 0x43 ≠ 0 ∧ (2 : NodeIx).val =
      ((List.range (0x43#8).toNat).filter fun k => ftGet tTree.ft (BitVec.ofNat 8 k) != 0).length) :=
  ⟨⟨_, rfl⟩, by decide +kernel, by decide +kernel⟩

/-- A leaf, an internal node and ROOT of T1 as built; leaf A is in the queue of merge 3 and not taken by it. -/
theorem witness_BuildMakesAStrictBinaryTree :
    ∃ t : State, exec .build tTree = .next t ∧ ftGet tTree.ft 0x41 ≠ 0 ∧ (2 : NodeIx).val < t.nsym.toNat ∧
      t.nsym.toNat ≤ (3 : NodeIx).val ∧ (3 : NodeIx).val ≤ t.root.val ∧ (4 : NodeIx).val = t.root.val ∧
      (0 : NodeIx).val < (3 : NodeIx).val ∧ (∀ k : NodeIx, ¬ (t.nsym.toNat ≤ k.val ∧ k.val < (3 : NodeIx).val)) ∧
      (0 : NodeIx) ≠ (nodeAt t.arena 3).left ∧ (0 : NodeIx) ≠ (nodeAt t.arena 3).right := by
  refine ⟨_, rfl, ?_⟩
  decide +kernel

theorem witness_BuildDependsOnTheTableAlone :
    ∃ s s' t t' : State, s.ft = s'.ft ∧ ftGet s.ft 0x41 ≠ 0 ∧ exec .build s = .next t ∧ exec .build s' = .next t' ∧
      s.ctValid ≠ s'.ctValid ∧ (4 : NodeIx).val ≤ t.root.val := by
  refine ⟨tTree, tCodes, _, _, rfl, by decide +kernel, rfl, rfl, by decide, ?_⟩
  decide +kernel

theorem witness_GenNeedsAValidTree : tZero.treeValid = false := rfl

theorem witness_GenWritesTheCodeTable :
    (tTree.treeValid = true ∧ (nodeAt tTree.arena tTree.root).leaf = false) ∧
    (tSingle.treeValid = true ∧ (nodeAt tSingle.arena tSingle.root).leaf = true) := by decide +kernel

/-- A present symbol and an absent one. -/
theorem witness_GenCodesAreThePathsToTheLeaves :
    ∃ t : State, tTree.treeValid = true ∧ tTree.TreeOfFt ∧ exec .gen tTree = .next t ∧ 2 ≤ tTree.nsym.toNat ∧
      ftGet tTree.ft 0x43 ≠ 0 ∧ ftGet tTree.ft 0x44 = 0 :=
  ⟨_, rfl, tTree_treeOfFt, rfl, by decide, by decide +kernel, by decide +kernel⟩

theorem witness_GenCodesArePrefixFree :
    ∃ t : State, tTree.treeValid = true ∧ tTree.TreeOfFt ∧ exec .gen tTree = .next t ∧ ftGet tTree.ft 0x41 ≠ 0 ∧
      ftGet tTree.ft 0x43 ≠ 0 ∧ (0x41#8 : Byte) ≠ 0x43#8 :=
  ⟨_, rfl, tTree_treeOfFt, rfl, by decide +kernel, by decide +kernel, by decide⟩

/-- An empty FT, a present symbol; a byte to push with and without room; no byte left. -/
theorem witness_HdrWriteSteps :
    ((tAt tZero 0x4 .start).accepted 0x04 ∧ ∀ sym, ftGet (tAt tZero 0x4 .start).ft sym = 0) ∧
    ((tAt tTree 0x4 .start).accepted 0x04 ∧ ftGet (tAt tTree 0x4 .start).ft 0x41 ≠ 0) ∧
    ((tAt tTree 0x4 (.hdrWrite [0])).atPos 0x04 0 (.hdrWrite [0]) ∧ (tAt tTree 0x4 (.hdrWrite [0])).room) ∧
    (∃ s : State, s.atPos 0x04 0 (.hdrWrite [0]) ∧ ¬ s.room) ∧
    (tAt tTree 0x4 (.hdrWrite [])).atPos 0x04 0 (.hdrWrite []) :=
  ⟨⟨rfl, tZero_empty⟩, ⟨rfl, by decide +kernel⟩, ⟨rfl, by unfold State.room; decide⟩,
    ⟨tAt { tTree with params := { Params.default with ofifoDepth := 1 }, outFifo := [0] } 0x4 (.hdrWrite [0]), rfl, by
      unfold State.room; decide⟩, rfl⟩

/-- T2's header has 7 bytes; a FIFO of depth 7 just has room for it. -/
theorem witness_HdrWriteSendsTheWholeHeader :
    ∃ s : State, s.accepted 0x04 ∧ ftGet s.ft 0x41 ≠ 0 ∧ s.outFifo.length + 7 ≤ s.params.ofifoDepth ∧
      ((List.range 256).filter fun k => ftGet s.ft (BitVec.ofNat 8 k) != 0).length = 1 :=
  ⟨tAt { tSingle with params := { Params.default with ofifoDepth := 7 } } 0x4 .start, rfl, by decide +kernel, by decide, by
    decide +kernel⟩

/-- The start; each position that reads a byte, with no budget, no byte, a byte; N at 0, 1, 256, 257; the three ends of a
record; the last record done. -/
theorem witness_HdrParseSteps :
    (tAt tTree 0x5 .start).accepted 0x05 ∧
    (∀ p ∈ [Pos.parseHigh, .parseLow 1, .parseSymbol (255 + 1), .parseCount 1 0x41 2 7, .parseCount 1 0x41 3 7],
      (tAt tZero 0x5 p).atPos 0x05 0 p) ∧
    (2 < 3 ∧ tZero.inRemain = 0 ∧ { tZero with inRemain := 1 }.inRemain ≠ 0 ∧ tZero.inFifo = [] ∧
      { tZero with inRemain := 1, inFifo := [5] }.inFifo = 5 :: []) ∧
    (∀ n ∈ [0#16, 1#16, 256#16, 257#16], (tAt tZero 0x5 (.parseCheckN n)).atPos 0x05 0 (.parseCheckN n)) ∧
    ((tAt tTree 0x5 (.parseCheckRecord 1 0x41 0)).atPos 0x05 0 (.parseCheckRecord 1 0x41 0) ∧ ftGet tTree.ft 0x41 ≠ 0) ∧
    ((tAt tTree 0x5 (.parseCheckRecord 1 0x44 0)).atPos 0x05 0 (.parseCheckRecord 1 0x44 0) ∧ ftGet tTree.ft 0x44 = 0) ∧
    ((tAt tTree 0x5 (.parseCheckRecord 1 0x44 1)).atPos 0x05 0 (.parseCheckRecord 1 0x44 1) ∧ (1 : Word) ≠ 0) ∧
    (tAt tZero 0x5 (.parseSymbol 0)).atPos 0x05 0 (.parseSymbol 0) :=
  ⟨rfl, fun _ _ => rfl, by decide, fun _ _ => rfl, ⟨rfl, by decide +kernel⟩, ⟨rfl, by decide +kernel⟩, ⟨rfl, by decide⟩,
    rfl⟩

theorem witness_HdrParseRestoresTheTable :
    ∃ (s : State) (rest : List Byte), s.accepted 0x05 ∧ ftGet tFtABC 0x41 ≠ 0 ∧ s.inFifo = headerBytes tFtABC ++ rest ∧
      (headerBytes tFtABC).length ≤ s.inRemain.toNat :=
  ⟨tAt { tZero with inRemain := 17, inFifo := headerBytes tFtABC ++ [1] } 0x5 .start, [1], rfl, by decide +kernel, rfl, by
    decide +kernel⟩

/-- No code table; a wrong length; E1's length in both padding modes. -/
theorem witness_EncodeChecksThenComputesPadding :
    (∀ s ∈ [tTree, tCodes], (tAt s 0x6 .start).accepted 0x06) ∧ tTree.ctValid = false ∧ tCodes.ctValid = true ∧
    { tCodes with inRemain := 9 }.inRemain.setWidth 40 ≠ tCodes.symcnt ∧
    { tCodes with inRemain := 10 }.inRemain.setWidth 40 = tCodes.symcnt ∧ tCodes.ctrl.padmode = false ∧
    { tCodes with ctrl := ctrlOfData 0x2#32 }.ctrl.padmode = true :=
  ⟨fun _ _ => rfl, rfl, rfl, by decide, by decide, rfl, rfl⟩

/-- A FIFO with one free place, and a full one. -/
theorem tRoom_witnesses :
    (∃ s : State, s.room ∧ s.outFifo.length + 1 = s.params.ofifoDepth) ∧ ∃ s : State, ¬ s.room :=
  ⟨⟨{ tZero with params := { Params.default with ofifoDepth := 1 } }, by unfold State.room; decide, rfl⟩,
    ⟨{ tZero with params := { Params.default with ofifoDepth := 1 }, outFifo := [0] }, by unfold State.room; decide⟩⟩

/-- The positions of ENCODE: the header with and without room; the head of the loop with symbols left (no budget, no byte, a
byte) and none (a wrong total, the right one); a code and none; a code's last bit done; a bit that completes a byte, with
and without room, and one that does not; the same for a padding bit; no padding bit left. -/
theorem witness_EncodeSteps :
    let l : EncLocals := { p := 1, left := 1, acc := [], nbits := 0 }
    let l0 : EncLocals := { l with left := 0, nbits := 15 }
    let l7 : EncLocals := { l with acc := List.replicate 7 true }
    let full : State := { tCodes with params := { Params.default with ofifoDepth := 1 }, outFifo := [0] }
    (∀ p, (tAt tCodes 0x6 p).atPos 0x06 0 p ∧ (tAt tCodes 0x6 p).room ∧ (tAt full 0x6 p).atPos 0x06 0 p ∧
      ¬ (tAt full 0x6 p).room) ∧
    (l0.left = 0 ∧ l0.nbits = tCodes.tbits.toNat ∧ { l0 with nbits := 14 }.nbits ≠ tCodes.tbits.toNat) ∧
    (l.left ≠ 0 ∧ tCodes.inRemain = 0 ∧ { tCodes with inRemain := 1 }.inRemain ≠ 0 ∧ tCodes.inFifo = [] ∧
      { tCodes with inFifo := [0x41] }.inFifo = 0x41 :: []) ∧
    ((codeAt tCodes.ct 0x41).len ≠ 0 ∧ (codeAt tCodes.ct 0x44).len = 0) ∧
    (l.acc.length ≠ 7 ∧ l7.acc.length = 7) ∧
    (∃ (l' : EncLocals) (p p' : Pos) (b : Bool), p = .encBits l 0x42 (1 + 1) ∧ p' = .encBits l' 0x42 1 ∧
      b = (codeAt tCodes.ct 0x42).code.getLsbD 1 ∧ l' = { l with acc := l'.acc, nbits := l.nbits + 1 } ∧
      l'.acc = l.acc ++ [b]) ∧
    (∃ (l' : EncLocals) (p p' : Pos), p = .encPad l7 (0 + 1) ∧ p' = .encPad l' 0 ∧ l' = { l7 with acc := l'.acc } ∧
      l'.acc = []) :=
  ⟨fun _ => ⟨rfl, show 0 < 32 by decide, rfl, show ¬ 1 < 1 by decide⟩, by decide, by decide, by
    decide +kernel, by decide, ⟨{ p := 1, left := 1, acc := [true], nbits := 1 }, _, _, _, rfl, rfl, rfl, rfl, by
      decide +kernel⟩, ⟨{ p := 1, left := 1, acc := [], nbits := 0 }, _, _, rfl, rfl, rfl, rfl⟩⟩

/-- The last position of ENCODE with nothing in the accumulator. -/
theorem witness_EncodeEndsByteAligned :
    ∃ (s t : State) (q : Seq), s.EncoderAligned ∧ s.seq = some q ∧ decodeCmd q.word = .encode ∧ s.err = false ∧
      exec .encode s = .next t ∧ t.seq = none ∧ t.err = false := by
  refine ⟨tAt tCodes 0x6 (.encPad { p := 1, left := 0, acc := [], nbits := 15 } 0), _, _, ?_, rfl, rfl, rfl, rfl, rfl, rfl⟩
  intro q h _
  cases h
  exact ⟨by decide, rfl⟩

/-- E1, with room for its three bytes exactly. -/
theorem witness_EncodeSendsTheWholeStream :
    let xs : List Byte := [0x41, 0x41, 0x41, 0x41, 0x41, 0x42, 0x42, 0x42, 0x43, 0x43]
    let s := tAt { tCodes with
      inRemain := 10, inFifo := xs ++ [9], params := { Params.default with ofifoDepth := 3 } } 0x6 .start
    s.accepted 0x06 ∧ s.ctValid = true ∧ s.inRemain.setWidth 40 = s.symcnt ∧ xs.length = s.inRemain.toNat ∧
    s.inFifo = xs ++ [9] ∧ (∀ x ∈ xs, (codeAt s.ct x).len ≠ 0) ∧
    (xs.flatMap fun x => codeBits (codeAt s.ct x)).length = s.tbits.toNat ∧
    s.outFifo.length + 1 + (s.tbits.toNat + padCount s.ctrl.padmode (s.tbits.toNat % 8)) / 8 ≤ s.params.ofifoDepth :=
  ⟨rfl, rfl, by decide, rfl, rfl, by decide +kernel, by decide +kernel, by decide⟩

/-- The start with and without a tree; the header byte; padding 8 of 8 bits, 8 of none, 9. -/
theorem witness_DecodeStartsAndChecksPadding :
    ((tAt tZero 0x7 .start).accepted 0x07 ∧ tZero.treeValid = false) ∧
    ((tAt tTree 0x7 .start).accepted 0x07 ∧ tTree.treeValid = true) ∧
    (∃ s : State, s.atPos 0x07 0 (.decHeader 0) ∧ s.inRemain = 0) ∧
    (∃ s : State, s.atPos 0x07 0 (.decHeader 1) ∧ s.inRemain ≠ 0 ∧ s.inFifo = []) ∧
    (∃ s : State, ∃ b rest, s.atPos 0x07 0 (.decHeader 1) ∧ s.inRemain ≠ 0 ∧ s.inFifo = b :: rest) ∧
    (∀ l p, (tAt tTree 0x7 (.decCheckPad l p)).atPos 0x07 0 (.decCheckPad l p)) ∧
    ((8#8).toNat ≤ 8 ∧ (8#8).toNat ≤ 8 * ((2#32).toNat - 1)) ∧ 8 * ((1#32).toNat - 1) < (8#8).toNat ∧ 8 < (9#8).toNat :=
  ⟨⟨rfl, rfl⟩, ⟨rfl, rfl⟩, ⟨tAt tTree 0x7 (.decHeader 0), rfl, rfl⟩,
    ⟨tAt { tTree with inRemain := 1 } 0x7 (.decHeader 1), rfl, by decide, rfl⟩,
    ⟨tAt { tTree with inRemain := 1, inFifo := [1] } 0x7 (.decHeader 1), _, _, rfl, by decide, rfl⟩, fun _ _ => rfl, by
    decide, by decide, by decide⟩

/-- After the last bit inside the tree and at ROOT; a byte needed with no budget, no byte, a byte; a bad bit and a good one
on T2; a bit to node 3 and one to a leaf on T1, with and without room. -/
theorem witness_DecodeWalkSteps :
    let l : DecLocals := { p := 1, e := 15, j := 14, x := 4, cur := 0x80, nb := 8 }
    (∀ p, (tAt tTree 0x7 p).atPos 0x07 0 p ∧ (tAt tTree 0x7 p).room) ∧
    ({ l with j := 15 }.e ≤ { l with j := 15 }.j ∧ { l with x := 3 }.x ≠ tTree.root ∧ l.x = tTree.root) ∧
    (l.j < l.e ∧ { l with nb := 0 }.nb = 0 ∧ tTree.inRemain = 0 ∧ { tTree with inRemain := 1 }.inRemain ≠ 0 ∧
      tTree.inFifo = [] ∧ { tTree with inFifo := [7] }.inFifo = 7 :: []) ∧
    (l.nb ≠ 0 ∧ (nodeAt tSingle.arena tSingle.root).leaf = true ∧ l.cur.getLsbD (l.nb - 1) = true ∧
      (0x00#8).getLsbD (l.nb - 1) = false) ∧
    ((nodeAt tTree.arena tTree.root).leaf = false ∧
      (nodeAt tTree.arena (nodeAt tTree.arena l.x).right).leaf = false ∧
      (nodeAt tTree.arena (nodeAt tTree.arena l.x).left).leaf = true) ∧ ∃ s : State, ¬ s.room :=
  ⟨fun _ => ⟨rfl, show 0 < 32 by decide⟩, by decide, by decide, by decide +kernel, by decide +kernel,
    tRoom_witnesses.2⟩

/-- A padding bit with no budget, no byte, a byte, a bit; the end with PADBITS, COUNT and without either. -/
theorem witness_DecodeEndsWithItsChecks :
    (∀ p, (tAt tTree 0x7 p).atPos 0x07 0 p) ∧
    (tTree.inRemain = 0 ∧ { tTree with inRemain := 1 }.inRemain ≠ 0 ∧ tTree.inFifo = [] ∧
      { tTree with inFifo := [7] }.inFifo = 7 :: []) ∧
    (∃ l l' : DecLocals, l.nb = 0 ∧ l'.nb ≠ 0) ∧
    (∃ s : State, s.ctrl.padchk = true) ∧ (tTree.ctrl.padchk = false ∧ tTree.ctrl.cntchk = true) ∧
    { tTree with dcount := 9 }.dcount ≠ tTree.symcnt ∧ { tTree with dcount := 10 }.dcount = tTree.symcnt ∧
    ∃ s : State, s.ctrl.cntchk = false :=
  ⟨fun _ => rfl, by decide, ⟨{ p := 1, e := 0, j := 0, x := 0, cur := 0, nb := 0 },
    { p := 1, e := 0, j := 0, x := 0, cur := 0, nb := 8 }, rfl, by decide⟩, ⟨{ tTree with ctrl := ctrlOfData 0x8#32 }, rfl⟩,
    ⟨rfl, rfl⟩, by decide, by decide, ⟨{ tTree with ctrl := ctrlOfData 0#32 }, rfl⟩⟩

/-- A bit of the walk, a padding bit, and the end. -/
theorem witness_DecodeTakesExactlyItsStream :
    (∃ (s t : State) (q : Seq), s.DecoderBudget ∧ s.seq = some q ∧ decodeCmd q.word = .decode ∧ s.err = false ∧
      exec .decode s = .next t ∧ ∃ l, q.pos = .decWalk l) ∧
    (∃ (s t : State) (q : Seq), s.DecoderBudget ∧ s.seq = some q ∧ decodeCmd q.word = .decode ∧ s.err = false ∧
      exec .decode s = .next t ∧ t.seq = none ∧ t.err = false ∧ ∃ l k z, q.pos = .decPad l k z) := by
  refine ⟨⟨tDecoding, _, _, tDecoding_budget, rfl, rfl, rfl, rfl, _, rfl⟩,
    ⟨tAt { tTree with dcount := 10 } 0x7 (.decPad { p := 1, e := 15, j := 15, x := 4, cur := 0xF4, nb := 0 } 0 false), _, _,
      ?_, rfl, rfl, rfl, rfl, rfl, rfl, _, _, _, rfl⟩⟩
  intro q h _
  cases h
  exact ⟨by decide, rfl⟩

/-- "ABC" by G1's codes, 0 11 10 and p = 3: the bytes 03 70, SYMCNT being 10 and CNTCHK off. -/
theorem witness_DecodeReturnsTheEncodedSymbols :
    let xs : List Byte := [0x41, 0x42, 0x43]
    let code : Byte → List Bool := fun x => if x = 0x41 then [false] else if x = 0x42 then [true, true] else [true, false]
    let s := tAt { tTree with
      inRemain := 2, inFifo := [0x03, 0x70, 9], ctrl := ctrlOfData 0#32
      params := { Params.default with ofifoDepth := 3 } } 0x7 .start
    s.accepted 0x07 ∧ s.treeValid = true ∧
    ((nodeAt s.arena s.root).leaf = false ∧ ∀ x ∈ xs, LeadsTo s.arena s.root (code x) x) ∧ 3 ≤ 8 ∧
    ((xs.flatMap code).length + 3) % 8 = 0 ∧
    s.inFifo = BitVec.ofNat 8 3 :: packBits (xs.flatMap code ++ List.replicate 3 false) ++ [9] ∧
    s.inRemain.toNat = 1 + ((xs.flatMap code).length + 3) / 8 ∧ s.outFifo.length + xs.length ≤ s.params.ofifoDepth ∧
    (s.ctrl.cntchk = false ∨ s.symcnt = BitVec.ofNat 40 xs.length) := by
  refine ⟨rfl, rfl, ⟨by decide +kernel, ?_⟩, by decide, by decide, by decide, by decide, by decide, .inl rfl⟩
  unfold LeadsTo
  decide +kernel

/-- D14: "AAAA" on the single-leaf tree, with SYMCNT = 4 and CNTCHK on. -/
theorem witness_DecodeReturnsTheEncodedSymbols_singleLeaf :
    let xs : List Byte := [0x41, 0x41, 0x41, 0x41]
    let s := tAt { tSingle with inRemain := 2, inFifo := [0x04, 0x00] } 0x7 .start
    s.accepted 0x07 ∧ s.treeValid = true ∧
    ((nodeAt s.arena s.root).leaf = true ∧ ∀ x ∈ xs, x = (nodeAt s.arena s.root).sym) ∧
    ((xs.flatMap fun _ => [false]).length + 4) % 8 = 0 ∧
    s.inFifo = BitVec.ofNat 8 4 :: packBits ((xs.flatMap fun _ => [false]) ++ List.replicate 4 false) ++ [] ∧
    s.inRemain.toNat = 1 + ((xs.flatMap fun _ => [false]).length + 4) / 8 ∧
    s.outFifo.length + xs.length ≤ s.params.ofifoDepth ∧ s.symcnt = BitVec.ofNat 40 xs.length :=
  ⟨rfl, rfl, by decide +kernel, by decide, by decide, by decide, by decide, by decide⟩

end Sys2Proof.Machine
end

section
/-! Command words (`30_encoding.md` R110 to R114). The encoder returns the word a command was decoded from, so a command has
one word; the words left over are those above the last opcode. -/

namespace Sys2Proof

/-- Encoding loses nothing of a command word, which is why no two words select the same command (R112). -/
@[simp] theorem encode_decodeCmd (w : Word) : encode (decodeCmd w) = .cmd w := by
  unfold decodeCmd
  split
  case h_10 => rfl
  all_goals exact congrArg Code.cmd (BitVec.eq_of_toNat_eq (Eq.symm ‹_›))

theorem decodeCmd_injective : Function.Injective decodeCmd := by
  intro v w h
  have hcmd : Code.cmd v = .cmd w := by rw [← encode_decodeCmd v, h, encode_decodeCmd]
  exact Code.cmd.inj hcmd

/-- The illegal words are those above FLUSH's opcode, the last of R113. -/
theorem decodeCmd_eq_illegalCmd_iff (w : Word) : decodeCmd w = .illegalCmd w ↔ 8 < w.toNat := by
  unfold decodeCmd
  split
  case h_10 =>
    refine iff_of_true rfl ?_
    simp only [imp_false] at *
    omega
  all_goals simp [*]

/-- RSVD is bits 31:8 of a command word, OPCODE bits 7:0 (R110). -/
theorem toNat_eq_rsvd_opcode (w : Word) :
    w.toNat = 256 * (w.extractLsb' 8 24).toNat + (w.extractLsb' 0 8).toNat := by
  simp only [BitVec.extractLsb'_toNat, Nat.shiftRight_eq_div_pow]
  omega

/-- R114's condition on the two fields, on the whole word. -/
theorem rsvd_ne_zero_or_opcode_gt_iff (w : Word) :
    (w.extractLsb' 8 24 ≠ 0 ∨ 8 < (w.extractLsb' 0 8).toNat) ↔ 8 < w.toNat := by
  have hfields := toNat_eq_rsvd_opcode w
  have hrsvd : w.extractLsb' 8 24 = 0 ↔ (w.extractLsb' 8 24).toNat = 0 := BitVec.toNat_eq
  rw [Ne, hrsvd]
  omega

/-- Settles O3: each command has the one word its encoding gives, and the illegal words are those above 0x08. -/
theorem commandWordSelectsByWholeWord : Obligations.CommandWordSelectsByWholeWord := by
  intro w
  refine ⟨?nop, ?ftClear, ?build, ?gen, ?hdrWrite, ?hdrParse, ?encode, ?decode, ?flush, ?illegal⟩
  case illegal => exact (decodeCmd_eq_illegalCmd_iff w).trans (rsvd_ne_zero_or_opcode_gt_iff w).symm
  all_goals exact decodeCmd_injective.eq_iff' rfl

end Sys2Proof
end

section
/-! Host writes (`40_host_access.md` R153, R157 to R163, R190). One equation per register a write can change, in the
terms the spec gives it, and the decoding of the FT window's offsets. -/

namespace Sys2Proof.Machine

theorem exec_wrCmd (s : State) (w : Word) : exec (.wrCmd w) s = .next (acceptCmd s w) := rfl

theorem exec_wrCtrl_of_srst (s : State) {d : Word} (h : d.getLsbD 0 = true) :
    exec (.wrCtrl d) s = .next { softReset s with ctrl := ctrlOfData d } :=
  congrArg Host.Outcome.next (if_pos h)

theorem exec_wrCtrl_of_not_srst (s : State) {d : Word} (h : d.getLsbD 0 = false) :
    exec (.wrCtrl d) s = .next (if s.busy then s.dropped else { s with ctrl := ctrlOfData d }) :=
  congrArg Host.Outcome.next (if_neg (Bool.eq_false_iff.mp h))

theorem exec_wrInRemain (s : State) (d : Word) :
    exec (.wrInRemain d) s = .next (if s.busy then s.dropped else { s with inRemain := d }) := rfl

theorem exec_wrFt_of_busy {s : State} (h : s.busy = true) (sym : Byte) (d : Word) :
    exec (.wrFt sym d) s = .next s.dropped :=
  congrArg Host.Outcome.next (writeWhenIdle_busy h _)

theorem exec_wrFt_of_idle {s : State} (h : s.busy = false) (sym : Byte) (d : Word) :
    exec (.wrFt sym d) s = .next { s with ft := ftSet s.ft sym d, treeValid := false, ctValid := false } :=
  congrArg Host.Outcome.next (writeWhenIdle_idle h _)

theorem State.inFull_iff (s : State) : s.inFull = true ↔ s.inFifo.length = s.params.ififoDepth := decide_eq_true_iff

theorem exec_wrInData (s : State) (d : Word) :
    exec (.wrInData d) s = .next (if s.inFifo.length = s.params.ififoDepth then s.dropped else
      { s with inFifo := s.inFifo ++ [d.extractLsb' 0 8] }) :=
  congrArg Host.Outcome.next (if_congr s.inFull_iff rfl rfl)

theorem exec_wrAck (s : State) (d : Word) : exec (.wrAck d) s = .next (acknowledge s d) := rfl

theorem exec_wrCtSel (s : State) (d : Word) :
    exec (.wrCtSel d) s = .next { s with ctSel := d.extractLsb' 0 8 } := rfl

theorem exec_wrNdSel (s : State) (d : Word) :
    exec (.wrNdSel d) s = .next { s with ndSel := d.extractLsb' 0 9 } := rfl

theorem softReset_wdrop (s : State) : (softReset s).wdrop = false := rfl

/-- A command word accepted starts its command or, if illegal, ends at once with an error (R190, R114). -/
theorem acceptCmd_accepted {s : State} (hidle : s.busy = false) (herr : s.err = false) (w : Word) :
    (acceptCmd s w).wdrop = s.wdrop ∧
      ((acceptCmd s w).busy = true ∨ ((acceptCmd s w).err = true ∧ (acceptCmd s w).done = true)) := by
  rcases acceptCmd_cases s w with ⟨hbusy | herr', -⟩ | ⟨-, -, -, hfail⟩ | ⟨-, -, -, hstart⟩
  · exact absurd hbusy (by simp [hidle])
  · exact absurd herr' (by simp [herr])
  · rw [hfail]
    exact ⟨rfl, .inr ⟨rfl, rfl⟩⟩
  · rw [hstart]
    exact ⟨rfl, .inl rfl⟩

theorem acceptCmd_dropped {s : State} (h : s.busy = true ∨ s.err = true) (w : Word) : acceptCmd s w = s.dropped :=
  if_pos (Bool.or_eq_true_iff.mpr h)

/-- Offset 0x400 + 4·s is word 256 + s of the window (`10_state.md` R20). -/
theorem ftOffset_toNat (sym : Byte) : (ftOffset sym).toNat = 4 * (256 + sym.toNat) := by
  have hsym := sym.isLt
  simp only [ftOffset, BitVec.toNat_add, BitVec.toNat_shiftLeft, BitVec.toNat_setWidth, BitVec.toNat_ofNat,
    Nat.shiftLeft_eq]
  omega

theorem ftSymbol_ftOffset (sym : Byte) : ftSymbol (ftOffset sym) = sym := by
  apply BitVec.eq_of_toNat_eq
  have hsym := sym.isLt
  simp only [ftSymbol, BitVec.extractLsb'_toNat, ftOffset_toNat, Nat.shiftRight_eq_div_pow]
  omega

theorem decodeWrite_ftOffset (sym : Byte) (d : Word) : decodeWrite (ftOffset sym) d = .wrFt sym d := by
  have hsym := sym.isLt
  have hword : (ftOffset sym).toNat / 4 = 256 + sym.toNat := by
    rw [ftOffset_toNat]
    omega
  unfold decodeWrite
  rw [hword]
  split
  case h_39 =>
    rw [if_neg (by omega), if_pos (by omega), ftSymbol_ftOffset]
  all_goals omega

/-- Settles O18: each cell of the table is the case of the write's equation that its condition selects. -/
theorem writeAcceptanceTable : Obligations.WriteAcceptanceTable := by
  refine ⟨?cmdDropped, ?cmdAccepted, ?ctrlReset, ?ctrlDropped, ?ctrlLoaded, ?budgetDropped, ?budgetLoaded, ?ftDropped,
    ?ftSet, ?pushDropped, ?pushed, ?alwaysAccepted⟩
  case cmdDropped =>
    intro s w h
    rw [exec_wrCmd, acceptCmd_dropped h]
  case cmdAccepted =>
    intro s w hidle herr
    exact ⟨_, exec_wrCmd s w, acceptCmd_accepted hidle herr w⟩
  case ctrlReset =>
    intro s d h
    exact ⟨_, exec_wrCtrl_of_srst s h, softReset_wdrop s, busy_of_seq_none (softReset_seq s), rfl⟩
  case ctrlDropped =>
    intro s d h hbusy
    rw [exec_wrCtrl_of_not_srst s h, if_pos hbusy]
  case ctrlLoaded =>
    intro s d h hidle
    refine ⟨{ s with ctrl := ctrlOfData d }, ?_, rfl, rfl⟩
    rw [exec_wrCtrl_of_not_srst s h, if_neg (Bool.eq_false_iff.mp hidle)]
  case budgetDropped =>
    intro s d hbusy
    rw [exec_wrInRemain, if_pos hbusy]
  case budgetLoaded =>
    intro s d hidle
    refine ⟨{ s with inRemain := d }, ?_, rfl, rfl⟩
    rw [exec_wrInRemain, if_neg (Bool.eq_false_iff.mp hidle)]
  case ftDropped =>
    exact fun s sym d hbusy => exec_wrFt_of_busy hbusy sym d
  case ftSet =>
    intro s sym d hidle
    exact ⟨_, exec_wrFt_of_idle hidle sym d, rfl, ftGet_ftSet_same s.ft sym d⟩
  case pushDropped =>
    intro s d hfull
    rw [exec_wrInData, if_pos hfull]
  case pushed =>
    intro s d hroom
    refine ⟨{ s with inFifo := s.inFifo ++ [d.extractLsb' 0 8] }, ?_, rfl, rfl⟩
    rw [exec_wrInData, if_neg hroom]
  case alwaysAccepted =>
    intro s d
    refine ⟨_, _, _, exec_wrAck s d, exec_wrCtSel s d, exec_wrNdSel s d, ?_, fun hclr => if_pos hclr, rfl, rfl,
      rfl, rfl⟩
    rw [acknowledge_wdrop]
    cases ackWdropClr d <;> simp

/-- Settles O17: the equations of the two writes, the CTRL write's without SRST. -/
theorem ctrlAndBudgetWritesLoadOrDrop : Obligations.CtrlAndBudgetWritesLoadOrDrop :=
  ⟨fun s _ h => exec_wrCtrl_of_not_srst s h, fun s d => ⟨rfl, rfl, rfl, exec_wrInRemain s d⟩⟩

/-- Settles O20: a sticky bit survives an ACK write exactly where its clear bit is 0. -/
theorem ackClearsStickyBits : Obligations.AckClearsStickyBits := by
  have hclear : ∀ clr bit : Bool, (if clr then false else bit) = (bit && !clr) := by decide
  exact fun s d => ⟨rfl, acknowledge s d, exec_wrAck s d, rfl, hclear .., hclear .., hclear .., rfl, rfl⟩

/-- Settles O21: the equation of the IN_DATA write. -/
theorem inDataWritePushesOrDrops : Obligations.InDataWritePushesOrDrops :=
  fun s d => ⟨rfl, exec_wrInData s d⟩

/-- Settles O22: the write's two equations, and the FT read back. -/
theorem ftWriteSetsCountAndClearsValidBits : Obligations.FtWriteSetsCountAndClearsValidBits := by
  intro s sym d
  refine ⟨decodeWrite_ftOffset sym d, fun hbusy => exec_wrFt_of_busy hbusy sym d, fun hidle => ?_⟩
  exact ⟨_, exec_wrFt_of_idle hidle sym d, rfl, ftGet_ftSet_same s.ft sym d,
    fun other hne => ftGet_ftSet_other s.ft d hne.symm⟩

end Sys2Proof.Machine
end

section
/-! Host reads with a value in every state (`40_host_access.md` R151, R155, R159, R161). -/

namespace Sys2Proof.Machine

theorem exec_rdErrcode (s : State) : exec .rdErrcode s = .next { s with rdata := s.errcode.setWidth 32 } := rfl

theorem exec_rdErrinfo (s : State) : exec .rdErrinfo s = .next { s with rdata := s.errinfo } := rfl

/-- The error registers read 0 while ERR = 0, because the invariant keeps them cleared (`10_state.md` R32). -/
theorem exec_rdErrcode_rdErrinfo_of_no_error {s : State} (hinv : s.Inv) (herr : s.err = false) :
    exec .rdErrcode s = .next { s with rdata := 0 } ∧ exec .rdErrinfo s = .next { s with rdata := 0 } := by
  obtain ⟨hcode, hinfo⟩ := hinv.errorClear herr
  rw [exec_rdErrcode, exec_rdErrinfo, hcode, hinfo]
  exact ⟨rfl, rfl⟩

/-- VALID is bit 8 above the byte (`10_state.md` R36). -/
theorem outDataWord_eq_append (b : Byte) : outDataWord b = 0#23 ++ 1#1 ++ b := rfl

theorem exec_rdOutData_of_cons {s : State} {b : Byte} {rest : List Byte} (h : s.outFifo = b :: rest) :
    exec .rdOutData s = .next { s with outFifo := rest, rdata := outDataWord b } := by
  simp only [exec, execRdOutData, popOutput, h, readResult]

theorem exec_rdOutData_of_nil {s : State} (h : s.outFifo = []) :
    exec .rdOutData s = .next { s with rdata := 0 } := by
  simp only [exec, execRdOutData, popOutput, h, readResult]
  rfl

/-- Settles O26: each read answers its register's value as the spec names it. -/
theorem registersReadableAtAnyTime : Obligations.RegistersReadableAtAnyTime := by
  intro s
  exact ⟨⟨rfl, rfl⟩, ⟨rfl, rfl⟩, ⟨rfl, exec_rdErrcode s⟩, ⟨rfl, exec_rdErrinfo s⟩,
    exec_rdErrcode_rdErrinfo_of_no_error, ⟨rfl, rfl⟩, ⟨rfl, rfl⟩, rfl, rfl⟩

/-- Settles O27: the two states of the output FIFO, empty or not. -/
theorem outDataReadPopsOldestByte : Obligations.OutDataReadPopsOldestByte := by
  refine ⟨rfl, ?nonempty, fun s => exec_rdOutData_of_nil⟩
  intro s b rest h
  rw [exec_rdOutData_of_cons h, outDataWord_eq_append]

end Sys2Proof.Machine
end

section
/-! Control commands (`41_control_commands.md` R195, R196): one equation per command, in the terms the spec gives its end. -/

namespace Sys2Proof.Machine

theorem exec_nop (s : State) : exec .nop s = .next s.ended := rfl

/-- FT_CLEAR ends in its first step, and the step clears the table and both valid bits. -/
theorem exec_ftClear (s : State) :
    exec .ftClear s =
      .next (State.ended { s with ft := Vector.replicate 256 0#32, treeValid := false, ctValid := false }) := rfl

/-- Settles O35: NOP's opcode and its equation. -/
theorem nopEndsWithSuccess : Obligations.NopEndsWithSuccess := ⟨rfl, exec_nop⟩

/-- Settles O36: FT_CLEAR's equation names the new table, and every entry of that table reads 0. -/
theorem ftClearEmptiesTheTable : Obligations.FtClearEmptiesTheTable :=
  ⟨rfl, fun s => ⟨_, exec_ftClear s, rfl, ftGet_clear⟩⟩

end Sys2Proof.Machine
end

section
/-! The priority queue (`42_tree_builder.md` R213, R214): `keyLt` is the lexicographic order, ExtractMin takes out a least
key, and two of them in a row take out the two least. -/

namespace Sys2Proof.Machine

theorem keyLt_iff (a b : Key) : keyLt a b = true ↔ toLex a < toLex b := by
  simp [keyLt, Prod.Lex.toLex_lt_toLex]

theorem keyLt_eq_false_iff (a b : Key) : keyLt a b = false ↔ toLex b ≤ toLex a := by
  rw [← Bool.not_eq_true, keyLt_iff, not_lt]

/-- `keyMin` is the minimum of the lexicographic order. -/
theorem toLex_keyMin (a b : Key) : toLex (keyMin a b) = min (toLex a) (toLex b) := by
  unfold keyMin
  split
  · next h => exact (min_eq_right ((keyLt_iff b a).mp h).le).symm
  · next h => exact (min_eq_left ((keyLt_eq_false_iff b a).mp (Bool.eq_false_iff.mpr h))).symm

theorem toLex_foldl_keyMin_le (l : List Key) (a : Key) :
    ∀ x ∈ a :: l, toLex (l.foldl keyMin a) ≤ toLex x := by
  induction l generalizing a with
  | nil => simp
  | cons b bs ih =>
    have hhead : toLex (bs.foldl keyMin (keyMin a b)) ≤ min (toLex a) (toLex b) :=
      toLex_keyMin a b ▸ ih (keyMin a b) _ List.mem_cons_self
    intro x hx
    rcases List.mem_cons.mp hx with rfl | hx
    · exact hhead.trans (min_le_left _ _)
    rcases List.mem_cons.mp hx with rfl | hx
    · exact hhead.trans (min_le_right _ _)
    · exact ih (keyMin a b) x (List.mem_cons_of_mem _ hx)

/-- What ExtractMin answers: the queue is the key and the rest, and no key of the rest is less. -/
theorem extractMin_spec {q rest : List Key} {m : Key} (h : extractMin q = some (m, rest)) :
    q.Perm (m :: rest) ∧ ∀ x ∈ rest, toLex m ≤ toLex x := by
  cases q with
  | nil => simp [extractMin] at h
  | cons k ks =>
    simp only [extractMin, Option.some.injEq, Prod.mk.injEq] at h
    obtain ⟨rfl, rfl⟩ := h
    exact ⟨List.perm_cons_erase (foldl_keyMin_mem ks k),
      fun x hx => toLex_foldl_keyMin_le ks k x (List.mem_of_mem_erase hx)⟩

/-- Two keys taken one after the other from a queue without repetition are its two least, in order. -/
theorem extractMin_twice {q q1 q2 : List Key} {a b : Key} (hnodup : q.Nodup)
    (ha : extractMin q = some (a, q1)) (hb : extractMin q1 = some (b, q2)) :
    q.Perm (a :: b :: q2) ∧ keyLt a b = true ∧ ∀ x ∈ q2, keyLt b x = true := by
  obtain ⟨hperm1, hleast1⟩ := extractMin_spec ha
  obtain ⟨hperm2, hleast2⟩ := extractMin_spec hb
  have hperm : q.Perm (a :: b :: q2) := hperm1.trans (hperm2.cons a)
  have hdistinct := hperm.nodup hnodup
  simp only [List.nodup_cons, List.mem_cons, not_or] at hdistinct
  obtain ⟨⟨hab, -⟩, hbq2, -⟩ := hdistinct
  refine ⟨hperm, (keyLt_iff a b).mpr ?_, fun x hx => (keyLt_iff b x).mpr ?_⟩
  · exact (hleast1 b (hperm2.mem_iff.mpr List.mem_cons_self)).lt_of_ne (toLex.injective.ne hab)
  · exact (hleast2 x hx).lt_of_ne (toLex.injective.ne (ne_of_mem_of_not_mem hx hbq2).symm)

/-- A queue of at least two keys has the two keys of a merge. -/
theorem exists_extractMin_twice {q : List Key} (h : 2 ≤ q.length) :
    ∃ a q1 b q2, extractMin q = some (a, q1) ∧ extractMin q1 = some (b, q2) := by
  have hne : q ≠ [] := by rintro rfl; simp at h
  obtain ⟨⟨a, q1⟩, ha⟩ := Option.isSome_iff_exists.mp (extractMin_isSome hne)
  have hlen := extractMin_length ha
  have hne1 : q1 ≠ [] := by rintro rfl; rw [List.length_nil] at hlen; omega
  obtain ⟨⟨b, q2⟩, hb⟩ := Option.isSome_iff_exists.mp (extractMin_isSome hne1)
  exact ⟨a, q1, b, q2, ha, hb⟩

/-- A merge writes its node, and the rest of the merges go on with the merged key in the queue. -/
theorem mergeNodes_succ {q q1 q2 : List Key} {a b : Key} (k next : Nat)
    (ha : extractMin q = some (a, q1)) (hb : extractMin q1 = some (b, q2)) :
    mergeNodes (k + 1) next q = mergeNode a b :: mergeNodes k (next + 1) ((a.1 + b.1, next) :: q2) := by
  simp [mergeNodes, ha, hb]

/-- A queue of one key more than there are merges never runs out. -/
theorem mergeNodes_length {merges : Nat} (next : Nat) {q : List Key} (h : q.length = merges + 1) :
    (mergeNodes merges next q).length = merges := by
  induction merges generalizing next q with
  | zero => rfl
  | succ k ih =>
    obtain ⟨a, q1, b, q2, ha, hb⟩ := exists_extractMin_twice (q := q) (by omega)
    have hlen1 := extractMin_length ha
    have hlen2 := extractMin_length hb
    rw [mergeNodes_succ k next ha hb, List.length_cons, ih (next + 1) (by rw [List.length_cons]; omega)]

end Sys2Proof.Machine
end

section
/-! The present symbols (`00_scope.md` R18, `42_tree_builder.md` R211): `presentEntries` lists the symbols of nonzero count in
ascending order, so an entry's place is the number of smaller present symbols. -/

namespace Sys2Proof.Machine

/-- The present symbols below `n`, in ascending order. -/
def presentBelow (ft : Vector Word 256) (n : Nat) : List Nat :=
  (List.range n).filter fun k => ftGet ft (BitVec.ofNat 8 k) != 0

/-- Symbol `k` with its count. -/
def entryOf (ft : Vector Word 256) (k : Nat) : Byte × Word := (BitVec.ofNat 8 k, ftGet ft (BitVec.ofNat 8 k))

@[simp] theorem entryOf_toNat (ft : Vector Word 256) (sym : Byte) : entryOf ft sym.toNat = (sym, ftGet ft sym) := by
  simp [entryOf]

theorem zipIdx_toList_ft (ft : Vector Word 256) :
    ft.toList.zipIdx = (List.range 256).map fun k => (ftGet ft (BitVec.ofNat 8 k), k) := by
  refine List.ext_getElem (by simp) fun k hk _ => ?_
  have hk' : k < 256 := by simpa using hk
  simp [ftGet, Nat.mod_eq_of_lt hk']

theorem presentEntries_eq_map (ft : Vector Word 256) :
    presentEntries ft = (presentBelow ft 256).map (entryOf ft) := by
  rw [presentEntries, zipIdx_toList_ft, presentBelow, List.filterMap_map]
  induction List.range 256 with
  | nil => rfl
  | cons k ks ih => by_cases h : ftGet ft (BitVec.ofNat 8 k) = 0#32 <;> simpa [h, entryOf] using ih

theorem presentCount_eq_length (ft : Vector Word 256) : presentCount ft = (presentBelow ft 256).length := by
  rw [presentCount, presentEntries_eq_map, List.length_map]

theorem presentCount_le (ft : Vector Word 256) : presentCount ft ≤ 256 := by
  rw [presentCount_eq_length]
  exact (List.length_filter_le _ _).trans_eq List.length_range

theorem presentCount_eq_zero {ft : Vector Word 256} (h : ∀ sym, ftGet ft sym = 0) : presentCount ft = 0 := by
  simp [presentCount_eq_length, presentBelow, h]

/-- A present symbol's entry stands at the number of smaller present symbols. -/
theorem presentEntries_getElem? {ft : Vector Word 256} {sym : Byte} (h : ftGet ft sym ≠ 0) :
    (presentEntries ft)[(presentBelow ft sym.toNat).length]? = some (sym, ftGet ft sym) := by
  have hsplit : 256 = sym.toNat + (255 - sym.toNat + 1) := by omega
  have hbelow : presentBelow ft 256 = presentBelow ft sym.toNat ++ sym.toNat ::
      ((List.range (255 - sym.toNat)).map fun k => sym.toNat + (k + 1)).filter
        fun k => ftGet ft (BitVec.ofNat 8 k) != 0 := by
    rw [hsplit, presentBelow, List.range_add, List.filter_append, List.range_succ_eq_map, List.map_cons,
      List.filter_cons_of_pos (by simpa using h), List.map_map]
    rfl
  rw [presentEntries_eq_map, hbelow, List.map_append]
  simp

theorem presentCount_pos {ft : Vector Word 256} {sym : Byte} (h : ftGet ft sym ≠ 0) : 1 ≤ presentCount ft :=
  Nat.one_le_iff_ne_zero.mpr fun h0 => by
    have := presentEntries_getElem? h
    simp [List.eq_nil_of_length_eq_zero h0] at this

/-- The counts of the present symbols add up to those of all symbols. -/
theorem sum_presentEntries (ft : Vector Word 256) :
    ((presentEntries ft).map fun e => e.2.toNat).sum =
      ((List.range 256).map fun k => (ftGet ft (BitVec.ofNat 8 k)).toNat).sum := by
  rw [presentEntries_eq_map, presentBelow, List.map_map]
  induction List.range 256 with
  | nil => rfl
  | cons k ks ih =>
    by_cases h : ftGet ft (BitVec.ofNat 8 k) = 0#32 <;> simpa [h, entryOf] using ih

/-- At most 256 counts of 32 bits: no weight needs more than 40 bits (R219). -/
theorem sum_presentEntries_lt (ft : Vector Word 256) :
    ((presentEntries ft).map fun e => e.2.toNat).sum < 2 ^ 40 := by
  have hbound : ∀ c ∈ (presentEntries ft).map fun e => e.2.toNat, c ≤ 2 ^ 32 - 1 := by
    simp only [List.mem_map]
    rintro _ ⟨e, -, rfl⟩
    omega
  have hsum := List.sum_le_card_nsmul _ _ hbound
  have hcount := presentCount_le ft
  simp only [List.length_map, smul_eq_mul] at hsum
  unfold presentCount at hcount
  omega

end Sys2Proof.Machine
end

section
/-! The merges of BUILD (`42_tree_builder.md` R212 to R215), on the arena that holds them: before the merge of index `m` the
queue holds the keys of the entries below `m` that no earlier merge has taken, and a merge takes the two least of them. -/

namespace Sys2Proof.Machine

/-- The key of arena entry `j` (R213). -/
def arenaKey (arena : Vector Node 511) (j : NodeIx) : Key := ((nodeAt arena j).w.toNat, j.val)

/-- One of the merges `n` to `m - 1` has taken entry `j` for its child. -/
def Taken (arena : Vector Node 511) (n m : Nat) (j : NodeIx) : Prop :=
  ∃ k : NodeIx, n ≤ k.val ∧ k.val < m ∧ ((nodeAt arena k).left = j ∨ (nodeAt arena k).right = j)

/-- Entry `i` is a merge of R214: it takes the two least keys of the entries below it that merges from `n` on have left. -/
structure MergeAt (arena : Vector Node 511) (n : Nat) (i : NodeIx) : Prop where
  internal : (nodeAt arena i).leaf = false
  left_lt : (nodeAt arena i).left.val < i.val
  right_lt : (nodeAt arena i).right.val < i.val
  weight : (nodeAt arena i).w.toNat =
    (nodeAt arena (nodeAt arena i).left).w.toNat + (nodeAt arena (nodeAt arena i).right).w.toNat
  ordered : keyLt (arenaKey arena (nodeAt arena i).left) (arenaKey arena (nodeAt arena i).right) = true
  left_free : ¬ Taken arena n i.val (nodeAt arena i).left
  right_free : ¬ Taken arena n i.val (nodeAt arena i).right
  least : ∀ j : NodeIx, j.val < i.val → ¬ Taken arena n i.val j →
    j = (nodeAt arena i).left ∨ j = (nodeAt arena i).right ∨
      keyLt (arenaKey arena (nodeAt arena i).right) (arenaKey arena j) = true

/-- `q` is the queue before the merge of index `m`: the keys of the entries below `m` not taken yet. -/
structure QueueAt (arena : Vector Node 511) (n m : Nat) (q : List Key) : Prop where
  nodup : q.Nodup
  entry : ∀ key ∈ q, ∃ j, arenaKey arena j = key
  mem_iff : ∀ j, arenaKey arena j ∈ q ↔ j.val < m ∧ ¬ Taken arena n m j
  taken_lt : ∀ j, Taken arena n m j → j.val < m

variable {arena : Vector Node 511} {n m : Nat} {i : NodeIx} {q rest : List Key}

@[simp] theorem arenaKey_inj {j k : NodeIx} : arenaKey arena j = arenaKey arena k ↔ j = k :=
  ⟨fun h => Fin.ext (congrArg Prod.snd h), congrArg _⟩

theorem not_taken_self (j : NodeIx) : ¬ Taken arena n n j := fun ⟨_, hge, hlt, _⟩ => by omega

theorem taken_succ_iff (hn : n ≤ i.val) (j : NodeIx) :
    Taken arena n (i.val + 1) j ↔ Taken arena n i.val j ∨ j = (nodeAt arena i).left ∨ j = (nodeAt arena i).right := by
  constructor
  · rintro ⟨k, hge, hlt, hchild⟩
    rcases Nat.lt_succ_iff_lt_or_eq.mp hlt with hlt | heq
    · exact .inl ⟨k, hge, hlt, hchild⟩
    · obtain rfl := Fin.ext heq
      exact .inr (hchild.imp Eq.symm Eq.symm)
  · rintro (⟨k, hge, hlt, hchild⟩ | hchild)
    · exact ⟨k, hge, hlt.trans (Nat.lt_succ_self _), hchild⟩
    · exact ⟨i, hn, Nat.lt_succ_self _, hchild.imp Eq.symm Eq.symm⟩

section
variable {j k : NodeIx} (hi : MergeAt arena n i) (hij : (nodeAt arena i).left = j ∨ (nodeAt arena i).right = j)
include hi hij

theorem MergeAt.child_lt : j.val < i.val := by
  rcases hij with rfl | rfl
  exacts [hi.left_lt, hi.right_lt]

theorem MergeAt.child_free : ¬ Taken arena n i.val j := by
  rcases hij with rfl | rfl
  exacts [hi.left_free, hi.right_free]

/-- No entry is the child of two merges: what the earlier one takes, the later one no longer finds (R220). -/
theorem MergeAt.child_unique (hk : MergeAt arena n k) (hni : n ≤ i.val) (hnk : n ≤ k.val)
    (hkj : (nodeAt arena k).left = j ∨ (nodeAt arena k).right = j) : k = i := by
  rcases lt_trichotomy k i with hlt | heq | hgt
  · exact absurd ⟨k, hnk, hlt, hkj⟩ (hi.child_free hij)
  · exact heq
  · exact absurd ⟨i, hni, hgt, hij⟩ (hk.child_free hkj)

end

/-- The index in a queued key is the entry the key belongs to. -/
theorem QueueAt.arenaKey_ofNat {key : Key} (hq : QueueAt arena n m q) (h : key ∈ q) :
    arenaKey arena (Fin.ofNat 511 key.2) = key := by
  obtain ⟨j, rfl⟩ := hq.entry key h
  exact arenaKey_inj.mpr (Fin.ext (Nat.mod_eq_of_lt j.isLt))

section
variable (hq : QueueAt arena n i.val q)
  (hperm : q.Perm (arenaKey arena (nodeAt arena i).left :: arenaKey arena (nodeAt arena i).right :: rest))
include hq hperm

theorem QueueAt.left_lt_and_free : (nodeAt arena i).left.val < i.val ∧ ¬ Taken arena n i.val (nodeAt arena i).left :=
  (hq.mem_iff _).mp (hperm.mem_iff.mpr (by simp))

theorem QueueAt.right_lt_and_free : (nodeAt arena i).right.val < i.val ∧ ¬ Taken arena n i.val (nodeAt arena i).right :=
  (hq.mem_iff _).mp (hperm.mem_iff.mpr (by simp))

/-- Each entry below a merge that is free is one of its children or stays in the queue. -/
theorem QueueAt.child_or_mem_rest {j : NodeIx} (hj : j.val < i.val) (hfree : ¬ Taken arena n i.val j) :
    j = (nodeAt arena i).left ∨ j = (nodeAt arena i).right ∨ arenaKey arena j ∈ rest := by
  simpa using hperm.mem_iff.mp ((hq.mem_iff j).mpr ⟨hj, hfree⟩)

/-- Taking the two least keys makes the entry a merge of R214. -/
theorem QueueAt.mergeAt (hinternal : (nodeAt arena i).leaf = false)
    (hweight : (nodeAt arena i).w.toNat =
      (nodeAt arena (nodeAt arena i).left).w.toNat + (nodeAt arena (nodeAt arena i).right).w.toNat)
    (hordered : keyLt (arenaKey arena (nodeAt arena i).left) (arenaKey arena (nodeAt arena i).right) = true)
    (hleast : ∀ key ∈ rest, keyLt (arenaKey arena (nodeAt arena i).right) key = true) : MergeAt arena n i where
  internal := hinternal
  left_lt := (hq.left_lt_and_free hperm).1
  right_lt := (hq.right_lt_and_free hperm).1
  weight := hweight
  ordered := hordered
  left_free := (hq.left_lt_and_free hperm).2
  right_free := (hq.right_lt_and_free hperm).2
  least := fun _ hj hfree => (hq.child_or_mem_rest hperm hj hfree).imp_right (.imp_right (hleast _))

/-- The keys left over by a merge are those of the entries below it that it leaves free. -/
theorem QueueAt.mem_rest_iff (hn : n ≤ i.val) (j : NodeIx) :
    arenaKey arena j ∈ rest ↔ j.val < i.val ∧ ¬ Taken arena n (i.val + 1) j := by
  have hnodup := hperm.nodup hq.nodup
  simp only [List.nodup_cons, List.mem_cons, not_or] at hnodup
  obtain ⟨⟨-, hleft⟩, hright, -⟩ := hnodup
  rw [taken_succ_iff hn, not_or, not_or]
  constructor
  · intro hj
    obtain ⟨hlt, hfree⟩ := (hq.mem_iff j).mp (hperm.mem_iff.mpr (by simp [hj]))
    exact ⟨hlt, hfree, fun h => hleft (h ▸ hj), fun h => hright (h ▸ hj)⟩
  · rintro ⟨hlt, hfree, hjl, hjr⟩
    exact ((hq.child_or_mem_rest hperm hlt hfree).resolve_left hjl).resolve_left hjr

/-- With the merged key put in, what a merge leaves over is the queue of the next merge. -/
theorem QueueAt.succ (hn : n ≤ i.val) : QueueAt arena n (i.val + 1) (arenaKey arena i :: rest) := by
  have hmem := hq.mem_rest_iff hperm hn
  have htaken_lt : ∀ j, Taken arena n (i.val + 1) j → j.val < i.val := by
    intro j hj
    rcases (taken_succ_iff hn j).mp hj with h | rfl | rfl
    exacts [hq.taken_lt j h, (hq.left_lt_and_free hperm).1, (hq.right_lt_and_free hperm).1]
  refine ⟨List.nodup_cons.mpr ⟨fun h => ((hmem i).mp h).1.false, ?_⟩, ?_, fun j => ?_,
    fun j hj => (htaken_lt j hj).trans (Nat.lt_succ_self _)⟩
  case refine_1 => exact (hperm.nodup hq.nodup).of_cons.of_cons
  case refine_2 =>
    intro key hkey
    rcases List.mem_cons.mp hkey with rfl | hkey
    exacts [⟨i, rfl⟩, hq.entry key (hperm.mem_iff.mpr (by simp [hkey]))]
  case refine_3 =>
    rw [List.mem_cons, arenaKey_inj, hmem, Nat.lt_succ_iff_lt_or_eq, or_and_right, or_comm, Fin.ext_iff]
    exact or_congr_right (iff_self_and.mpr fun heq hj => (htaken_lt j hj).ne heq)

end

/-- One merge of R214, in the terms of `mergeNodes`. -/
theorem QueueAt.merge {a b : Key} (hq : QueueAt arena n i.val q) (hn : n ≤ i.val) (hperm : q.Perm (a :: b :: rest))
    (hordered : keyLt a b = true) (hleast : ∀ key ∈ rest, keyLt b key = true) (hfits : a.1 + b.1 < 2 ^ 40)
    (hnode : nodeAt arena i = mergeNode a b) :
    MergeAt arena n i ∧ QueueAt arena n (i.val + 1) ((a.1 + b.1, i.val) :: rest) := by
  have hleft : arenaKey arena (nodeAt arena i).left = a :=
    hnode ▸ hq.arenaKey_ofNat (hperm.mem_iff.mpr (by simp))
  have hright : arenaKey arena (nodeAt arena i).right = b :=
    hnode ▸ hq.arenaKey_ofNat (hperm.mem_iff.mpr (by simp))
  have hweight : (nodeAt arena i).w.toNat = a.1 + b.1 :=
    hnode ▸ (BitVec.toNat_ofNat _ _).trans (Nat.mod_eq_of_lt hfits)
  have hnew : arenaKey arena i = (a.1 + b.1, i.val) := Prod.ext hweight rfl
  have hinternal : (nodeAt arena i).leaf = false := hnode ▸ rfl
  subst hleft hright
  exact ⟨hq.mergeAt hperm hinternal hweight hordered hleast, hnew ▸ hq.succ hperm hn⟩

/-- `merges` merges from the queue before index `m` on: each entry is a merge of R214, and the one key that is left has the
weight of the whole queue. -/
theorem QueueAt.mergeAt_and_last {merges : Nat} (hq : QueueAt arena n m q) (hn : n ≤ m) (hlen : q.length = merges + 1)
    (hsum : (q.map Prod.fst).sum < 2 ^ 40) (hfit : m + merges ≤ 511)
    (hnodes : ∀ (k : Nat) (i : NodeIx), k < merges → i.val = m + k →
      (mergeNodes merges m q)[k]? = some (nodeAt arena i)) :
    (∀ i : NodeIx, m ≤ i.val → i.val < m + merges → MergeAt arena n i) ∧
      ∃ last, QueueAt arena n (m + merges) [last] ∧ last.1 = (q.map Prod.fst).sum := by
  induction merges generalizing m q with
  | zero =>
    obtain ⟨last, rfl⟩ := List.length_eq_one_iff.mp hlen
    exact ⟨fun i _ _ => by omega, last, hq, by simp⟩
  | succ merges ih =>
    obtain ⟨a, q1, b, rest, ha, hb⟩ := exists_extractMin_twice (q := q) (by omega)
    obtain ⟨hperm, hordered, hleast⟩ := extractMin_twice hq.nodup ha hb
    rw [mergeNodes_succ merges m ha hb] at hnodes
    have hrest : rest.length = merges := by
      have := hperm.length_eq
      simp only [List.length_cons] at this
      omega
    have htotal : (q.map Prod.fst).sum = a.1 + b.1 + (rest.map Prod.fst).sum := by
      simp [(hperm.map Prod.fst).sum_eq, add_assoc]
    obtain ⟨i, rfl⟩ : ∃ i : NodeIx, i.val = m := ⟨⟨m, show m < 511 by omega⟩, rfl⟩
    have hnode : nodeAt arena i = mergeNode a b := by simpa [eq_comm] using hnodes 0 i (by omega) rfl
    obtain ⟨hmerge, hnext⟩ := hq.merge hn hperm hordered hleast (by omega) hnode
    obtain ⟨hmerges, last, hlast, hlastSum⟩ := ih hnext (by omega) (by simp [hrest])
      (by simpa [htotal] using hsum) (by omega) fun k j hk hj => hnodes (k + 1) j (by omega) (by omega)
    refine ⟨fun j hge hlt => ?_, last, by rwa [← add_assoc, add_right_comm], by simpa [htotal] using hlastSum⟩
    rcases hge.eq_or_lt with heq | hgt
    · exact Fin.ext heq ▸ hmerge
    · exact hmerges j hgt (by omega)

end Sys2Proof.Machine
end

section
/-! The tree of a frequency table (`42_tree_builder.md` R211 to R220): what an arena that holds `treeNodes` of the table looks
like, entry by entry. -/

namespace Sys2Proof.Machine

@[simp] theorem leafNode_w_toNat (e : Byte × Word) : (leafNode e).w.toNat = e.2.toNat :=
  BitVec.toNat_setWidth_of_le (by decide)

theorem mem_leafKeys_iff {ft : Vector Word 256} {key : Key} :
    key ∈ leafKeys ft ↔ ∃ e, (presentEntries ft)[key.2]? = some e ∧ e.2.toNat = key.1 := by
  obtain ⟨w, i⟩ := key
  simp [leafKeys, List.mem_zipIdx_iff_getElem?]

theorem leafKeys_nodup (ft : Vector Word 256) : (leafKeys ft).Nodup := by
  refine List.Nodup.of_map Prod.snd ?_
  rw [leafKeys, List.map_map]
  change ((presentEntries ft).zipIdx.map Prod.snd).Nodup
  rw [List.zipIdx_map_snd]
  exact List.nodup_range'

@[simp] theorem leafKeys_length (ft : Vector Word 256) : (leafKeys ft).length = presentCount ft := by
  simp [leafKeys, presentCount]

theorem sum_leafKeys (ft : Vector Word 256) :
    ((leafKeys ft).map Prod.fst).sum = ((presentEntries ft).map fun e => e.2.toNat).sum := by
  rw [leafKeys, List.map_map]
  change ((presentEntries ft).zipIdx.map ((fun e => e.2.toNat) ∘ Prod.fst)).sum = _
  rw [← List.map_map, List.zipIdx_map_fst]

@[simp] theorem leafNodes_length (ft : Vector Word 256) : (leafNodes ft).length = presentCount ft := by
  simp [leafNodes, presentCount]

/-- A tree of N leaves has 2N - 1 nodes (R212). -/
theorem treeNodes_length {ft : Vector Word 256} (h : 1 ≤ presentCount ft) :
    (treeNodes ft).length = 2 * presentCount ft - 1 := by
  rw [treeNodes, List.length_append, leafNodes_length,
    mergeNodes_length _ (by rw [leafKeys_length]; omega)]
  omega

variable {s : State}

/-- The entries below N are the leaves, in symbol order (R211). -/
theorem State.TreeOfFt.leaf (h : s.TreeOfFt) {i : NodeIx} {e : Byte × Word}
    (he : (presentEntries s.ft)[i.val]? = some e) : nodeAt s.arena i = leafNode e := by
  have hlt : i.val < presentCount s.ft := (List.getElem?_eq_some_iff.mp he).1
  have hroot := h.root
  have hnode := h.nodes i (by omega)
  rw [treeNodes, List.getElem?_append_left (by simpa using hlt), leafNodes, List.getElem?_map, he] at hnode
  exact (Option.some.inj hnode).symm

theorem State.TreeOfFt.exists_leaf (h : s.TreeOfFt) {i : NodeIx} (hi : i.val < presentCount s.ft) :
    ∃ e, (presentEntries s.ft)[i.val]? = some e ∧ nodeAt s.arena i = leafNode e :=
  ⟨_, List.getElem?_eq_getElem hi, h.leaf (List.getElem?_eq_getElem hi)⟩

/-- The leaves seed the queue of the first merge (R214). -/
theorem State.TreeOfFt.queueAt_leafKeys (h : s.TreeOfFt) :
    QueueAt s.arena (presentCount s.ft) (presentCount s.ft) (leafKeys s.ft) where
  nodup := leafKeys_nodup s.ft
  entry := by
    rintro ⟨w, i⟩ hkey
    obtain ⟨e, he, rfl⟩ := mem_leafKeys_iff.mp hkey
    have hlt : i < presentCount s.ft := (List.getElem?_eq_some_iff.mp he).1
    have hcount := presentCount_le s.ft
    refine ⟨⟨i, show i < 511 by omega⟩, Prod.ext ?_ rfl⟩
    rw [arenaKey, h.leaf he, leafNode_w_toNat]
  mem_iff := by
    intro j
    simp only [not_taken_self, not_false_eq_true, and_true, mem_leafKeys_iff, arenaKey]
    constructor
    · rintro ⟨e, he, -⟩
      exact (List.getElem?_eq_some_iff.mp he).1
    · intro hj
      obtain ⟨e, he, hnode⟩ := h.exists_leaf hj
      exact ⟨e, he, by rw [hnode, leafNode_w_toNat]⟩
  taken_lt := fun j hj => absurd hj (not_taken_self j)

/-- Entries N to ROOT are the merges, and after the last one the queue holds ROOT alone, with the weight of all leaves. -/
theorem State.TreeOfFt.mergeAt_and_root (h : s.TreeOfFt) :
    (∀ i : NodeIx, presentCount s.ft ≤ i.val → i.val ≤ s.root.val → MergeAt s.arena (presentCount s.ft) i) ∧
      QueueAt s.arena (presentCount s.ft) (s.root.val + 1) [arenaKey s.arena s.root] ∧
      (nodeAt s.arena s.root).w.toNat = ((presentEntries s.ft).map fun e => e.2.toNat).sum := by
  have hpos := h.present
  have hroot := h.root
  have hcount := presentCount_le s.ft
  have hend : presentCount s.ft + (presentCount s.ft - 1) = s.root.val + 1 := by omega
  have hsum := sum_leafKeys s.ft
  have hnodes : ∀ (k : Nat) (i : NodeIx), k < presentCount s.ft - 1 → i.val = presentCount s.ft + k →
      (mergeNodes (presentCount s.ft - 1) (presentCount s.ft) (leafKeys s.ft))[k]? = some (nodeAt s.arena i) := by
    intro k i hk hi
    rw [← h.nodes i (by omega), treeNodes, List.getElem?_append_right (by simp [hi]), leafNodes_length, hi,
      Nat.add_sub_cancel_left]
  obtain ⟨hmerges, last, hlast, hweight⟩ := h.queueAt_leafKeys.mergeAt_and_last le_rfl
    (by rw [leafKeys_length]; omega) (hsum ▸ sum_presentEntries_lt s.ft) (by omega) hnodes
  rw [hend] at hmerges hlast
  have hfree : ¬ Taken s.arena (presentCount s.ft) (s.root.val + 1) s.root := by
    rintro ⟨k, hge, hlt, hchild⟩
    have := (hmerges k hge hlt).child_lt hchild
    omega
  have hkey : arenaKey s.arena s.root = last :=
    List.mem_singleton.mp ((hlast.mem_iff s.root).mpr ⟨Nat.lt_succ_self _, hfree⟩)
  subst hkey
  exact ⟨fun i hge hle => hmerges i hge (Nat.lt_succ_of_le hle), hlast, hweight.trans hsum⟩

theorem State.TreeOfFt.mergeAt (h : s.TreeOfFt) {i : NodeIx} (hge : presentCount s.ft ≤ i.val)
    (hle : i.val ≤ s.root.val) :
    MergeAt s.arena (presentCount s.ft) i := h.mergeAt_and_root.1 i hge hle

/-- The root's weight is the sum of the counts (R217). -/
theorem State.TreeOfFt.root_weight (h : s.TreeOfFt) : (nodeAt s.arena s.root).w.toNat =
    ((List.range 256).map fun k => (ftGet s.ft (BitVec.ofNat 8 k)).toNat).sum :=
  h.mergeAt_and_root.2.2.trans (sum_presentEntries s.ft)

/-- Every entry below ROOT is the child of some merge, or its key would be left beside ROOT's (R220). -/
theorem State.TreeOfFt.taken_of_lt_root (h : s.TreeOfFt) {j : NodeIx} (hj : j.val < s.root.val) :
    Taken s.arena (presentCount s.ft) (s.root.val + 1) j := by
  obtain ⟨-, hlast, -⟩ := h.mergeAt_and_root
  by_contra hfree
  have hkey : arenaKey s.arena j ∈ [arenaKey s.arena s.root] := (hlast.mem_iff j).mpr ⟨by omega, hfree⟩
  exact hj.ne (congrArg Fin.val (arenaKey_inj.mp (List.mem_singleton.mp hkey)))

end Sys2Proof.Machine
end

section
/-! BUILD (`42_tree_builder.md` R214, R217, R218): its two ends, and the tree of the table after the good one. -/

namespace Sys2Proof.Machine

theorem nodeAt_writeArena {nodes : List Node} {arena : Vector Node 511} {i : NodeIx} (h : i.val < nodes.length) :
    nodes[i.val]? = some (nodeAt (writeArena nodes arena) i) := by
  rw [← overlay_getElem? nodes arena.toList i.val h (by simp)]
  exact List.getElem?_eq_getElem _

theorem exec_build_of_empty {s : State} (h : presentCount s.ft = 0) :
    exec .build s = .next (State.failed { s with treeValid := false, ctValid := false } 0x02 0) :=
  congrArg Host.Outcome.next (if_pos h)

theorem exec_build_of_present {s : State} (h : 1 ≤ presentCount s.ft) : exec .build s = .next (buildTree s).ended :=
  congrArg Host.Outcome.next (if_neg (by omega))

theorem rootOf_val {n : Nat} (h : n ≤ 256) : (rootOf n).val = 2 * n - 2 := Nat.mod_eq_of_lt (by omega)

/-- A successful BUILD leaves the tree of the table (R217). -/
theorem buildTree_ended_treeOfFt {s : State} (h : 1 ≤ presentCount s.ft) : (buildTree s).ended.TreeOfFt where
  present := h
  root := rootOf_val (presentCount_le s.ft)
  nsym := BitVec.toNat_ofNat .. |>.trans (Nat.mod_eq_of_lt (by have := presentCount_le s.ft; omega))
  nodes := fun i hi => by
    have hroot : i.val ≤ 2 * presentCount s.ft - 2 := hi.trans_eq (rootOf_val (presentCount_le s.ft))
    have hlen : (treeNodes s.ft).length = 2 * presentCount s.ft - 1 := treeNodes_length h
    exact nodeAt_writeArena (hlen ▸ (by omega))
  symcnt := rfl

/-- What a BUILD with a present symbol reaches. -/
theorem build_next {s t : State} {sym : Byte} (ht : exec .build s = .next t) (h : ftGet s.ft sym ≠ 0) :
    t = (buildTree s).ended ∧ t.TreeOfFt := by
  have hpos := presentCount_pos h
  obtain rfl : (buildTree s).ended = t := Host.Outcome.next.inj ((exec_build_of_present hpos).symm.trans ht)
  exact ⟨rfl, buildTree_ended_treeOfFt hpos⟩

/-- Settles O39: a table of zeros has no present symbol. -/
theorem buildOfEmptyTableFails : Obligations.BuildOfEmptyTableFails := fun _ h =>
  exec_build_of_empty (presentCount_eq_zero h)

/-- Settles O40: the tree that BUILD leaves is the table's, and its root weighs the sum of the counts. -/
theorem buildSetsItsResults : Obligations.BuildSetsItsResults := by
  intro s sym h
  have hpos := presentCount_pos h
  have htree := buildTree_ended_treeOfFt hpos
  refine ⟨_, exec_build_of_present hpos, rfl, ?_, ?_, htree.symcnt, ?_⟩
  · exact htree.nsym.trans (presentCount_eq_length s.ft)
  · rw [htree.root, htree.nsym]
  · rw [htree.symcnt]
    exact htree.root_weight

/-- Settles O41: a present symbol's entry stands at the number of smaller ones, and the leaves follow the entries. -/
theorem buildPlacesLeavesInSymbolOrder : Obligations.BuildPlacesLeavesInSymbolOrder := by
  intro s t i sym ht h hi
  obtain ⟨rfl, htree⟩ := build_next ht h
  have hentry : (presentEntries s.ft)[i.val]? = some (sym, ftGet s.ft sym) := hi ▸ presentEntries_getElem? h
  rw [htree.leaf hentry]
  exact ⟨rfl, rfl, rfl⟩

/-- Settles O42: entries below N are leaves, those from N to ROOT merges of R214, and each entry below ROOT is taken once. -/
theorem buildMakesAStrictBinaryTree : Obligations.BuildMakesAStrictBinaryTree := by
  intro s t sym ht h
  obtain ⟨-, htree⟩ := build_next ht h
  rw [htree.nsym]
  refine ⟨fun i hi => ?leaves, fun i hge hle => ?internal, fun j hj => ?child, fun i j hge hle hj hfree => ?least⟩
  case leaves =>
    obtain ⟨e, -, hnode⟩ := htree.exists_leaf hi
    rw [hnode]
    rfl
  case internal =>
    have hmerge := htree.mergeAt hge hle
    exact ⟨hmerge.internal, hmerge.left_lt, hmerge.right_lt, hmerge.weight, hmerge.ordered⟩
  case child =>
    obtain ⟨i, hge, hlt, hchild⟩ := htree.taken_of_lt_root hj
    have hle : i.val ≤ t.root.val := Nat.le_of_lt_succ hlt
    exact ⟨i, ⟨hge, hle, hchild⟩, fun k hkge hkle hkchild =>
      (htree.mergeAt hge hle).child_unique hchild (htree.mergeAt hkge hkle) hge hkge hkchild⟩
  case least =>
    exact (htree.mergeAt hge hle).least j hj fun ⟨k, hkge, hklt, hchild⟩ =>
      hchild.elim (hfree k hkge hklt).1 (hfree k hkge hklt).2

/-- Settles O43: ROOT, NSYM and every entry up to ROOT are read off the table, SYMCNT off ROOT's entry. -/
theorem buildDependsOnTheTableAlone : Obligations.BuildDependsOnTheTableAlone := by
  intro s s' t t' sym hft h ht ht'
  obtain ⟨rfl, htree⟩ := build_next ht h
  obtain ⟨rfl, htree'⟩ := build_next ht' (hft ▸ h)
  have hroot : (buildTree s).ended.root = (buildTree s').ended.root := congrArg (fun ft => rootOf (presentCount ft)) hft
  have hnodes : ∀ i : NodeIx, i.val ≤ (buildTree s).ended.root.val →
      nodeAt (buildTree s).ended.arena i = nodeAt (buildTree s').ended.arena i := fun i hi =>
    Option.some.inj <| (htree.nodes i hi).symm.trans <|
      (congrArg (fun ft => (treeNodes ft)[i.val]?) hft).trans (htree'.nodes i (hroot ▸ hi))
  refine ⟨hroot, congrArg (fun ft => BitVec.ofNat 9 (presentCount ft)) hft, ?_, hnodes⟩
  rw [htree.symcnt, htree'.symcnt, hnodes _ le_rfl, hroot]

end Sys2Proof.Machine
end

section
/-! The codes of paths (`43_code_table.md` R231, R232): the code table entry that a path from the root spells,
and the steps of GEN's walk in the terms of the paths on its stack. -/

namespace Sys2Proof.Machine

/-- The value of a path, its first bit the most significant: each level appends one bit (R232). -/
def pathValue (bits : List Bool) : Nat := bits.foldl (fun v b => Nat.bit b v) 0

@[simp] theorem pathValue_nil : pathValue [] = 0 := rfl

@[simp] theorem pathValue_snoc (bits : List Bool) (b : Bool) :
    pathValue (bits ++ [b]) = Nat.bit b (pathValue bits) := by
  simp [pathValue]

/-- The entry of a leaf at the end of a path: CL is its length, CODE its value. -/
def pathCode (bits : List Bool) : CodeEntry :=
  { len := BitVec.ofNat 8 bits.length, code := BitVec.ofNat 256 (pathValue bits) }

theorem pathValue_lt (bits : List Bool) : pathValue bits < 2 ^ bits.length := by
  induction bits using List.reverseRecOn with
  | nil => simp
  | append_singleton bits b ih =>
    have := b.toNat_lt
    rw [pathValue_snoc, Nat.bit_val, List.length_append, List.length_singleton, pow_succ]
    omega

/-- The value's bits, from the highest down, are the path. -/
theorem map_testBit_pathValue (bits : List Bool) :
    (List.range bits.length).reverse.map (pathValue bits).testBit = bits := by
  induction bits using List.reverseRecOn with
  | nil => rfl
  | append_singleton bits b ih =>
    have hsucc : (Nat.bit b (pathValue bits)).testBit ∘ Nat.succ = (pathValue bits).testBit :=
      funext fun k => Nat.testBit_bit_succ k b _
    rw [pathValue_snoc, List.length_append, List.length_singleton, List.range_succ_eq_map, List.reverse_cons,
      List.map_append, ← List.map_reverse, List.map_map, hsucc, ih, List.map_singleton, Nat.testBit_bit_zero]

section
variable {bits : List Bool} (h : bits.length < 256)
include h

theorem pathCode_len_toNat : (pathCode bits).len.toNat = bits.length :=
  (BitVec.toNat_ofNat ..).trans (Nat.mod_eq_of_lt h)

theorem pathCode_code_toNat : (pathCode bits).code.toNat = pathValue bits :=
  (BitVec.toNat_ofNat ..).trans <|
    Nat.mod_eq_of_lt ((pathValue_lt bits).trans (Nat.pow_lt_pow_right (by decide) h))

/-- The bits of a path's code are the path. -/
theorem codeBits_pathCode : codeBits (pathCode bits) = bits := by
  have hbits : (pathCode bits).code.getLsbD = (pathValue bits).testBit := by
    rw [← pathCode_code_toNat h]
    rfl
  rw [codeBits, pathCode_len_toNat h, hbits, map_testBit_pathValue]

end

variable {arena : Vector Node 511} {root : NodeIx}

/-- The path goes over internal nodes only, so far as it goes (the first part of `LeadsTo`). -/
def InternalPath (arena : Vector Node 511) (root : NodeIx) (bits : List Bool) : Prop :=
  ∀ k, k < bits.length → (nodeAt arena (followBits arena root (bits.take k))).leaf = false

@[simp] theorem followBits_nil : followBits arena root [] = root := rfl

@[simp] theorem followBits_snoc (bits : List Bool) (b : Bool) :
    followBits arena root (bits ++ [b]) =
      if b then (nodeAt arena (followBits arena root bits)).right
      else (nodeAt arena (followBits arena root bits)).left := by
  simp [followBits]

@[simp] theorem internalPath_nil : InternalPath arena root [] := fun _ h => absurd h (Nat.not_lt_zero _)

/-- A path goes on below an internal node only. -/
@[simp] theorem internalPath_snoc (bits : List Bool) (b : Bool) :
    InternalPath arena root (bits ++ [b]) ↔
      InternalPath arena root bits ∧ (nodeAt arena (followBits arena root bits)).leaf = false := by
  simp only [InternalPath, List.length_append, List.length_singleton, Nat.lt_succ_iff_lt_or_eq, or_imp, forall_and,
    forall_eq, List.take_left]
  refine and_congr_left' (forall₂_congr fun k hk => ?_)
  rw [List.take_append_of_le_length hk.le]

/-- No code is a prefix of another leaf's: the shorter path's end is a leaf, the longer path's inner nodes are none
(R239). -/
theorem LeadsTo.sym_eq_of_prefix {p q : List Bool} {a b : Byte} (ha : LeadsTo arena root p a)
    (hb : LeadsTo arena root q b) (hpq : p <+: q) : a = b := by
  obtain ⟨-, hleaf, hsym⟩ := ha
  obtain ⟨hinner, -, hsym'⟩ := hb
  rcases hpq.length_le.eq_or_lt with heq | hlt
  · exact hsym.symm.trans ((hpq.eq_of_length heq) ▸ hsym')
  · have := hinner p.length hlt
    rw [← List.prefix_iff_eq_take.mp hpq, hleaf] at this
    exact absurd this (by decide)

/-- The stack entry of a path: where it leads, its value and its length (R232). -/
def pathItem (arena : Vector Node 511) (root : NodeIx) (bits : List Bool) : WalkItem :=
  { ix := followBits arena root bits, value := pathValue bits, depth := bits.length }

section
variable {p : List Bool} {ps : List (List Bool)} (fuel : Nat) (ct : Vector CodeEntry 256)

/-- A pop at a leaf writes the leaf's code. -/
theorem codeWalk_leaf (h : (nodeAt arena (followBits arena root p)).leaf = true) :
    codeWalk (fuel + 1) arena ((p :: ps).map (pathItem arena root)) ct =
      codeWalk fuel arena (ps.map (pathItem arena root))
        (codeSet ct (nodeAt arena (followBits arena root p)).sym (pathCode p)) :=
  if_pos h

/-- A pop at an internal node pushes the paths to its two children. -/
theorem codeWalk_internal (h : (nodeAt arena (followBits arena root p)).leaf = false) :
    codeWalk (fuel + 1) arena ((p :: ps).map (pathItem arena root)) ct =
      codeWalk fuel arena (((p ++ [false]) :: (p ++ [true]) :: ps).map (pathItem arena root)) ct := by
  simp [codeWalk, pathItem, h, Nat.bit_val]

end

end Sys2Proof.Machine
end

section
/-! GEN's walk of the tree of a table (`43_code_table.md` R232, R236): which entries it has still to pop, and why
511 pops are enough. -/

namespace Sys2Proof.Machine

variable {s : State}

theorem State.TreeOfFt.leaf_eq_false_iff (h : s.TreeOfFt) {i : NodeIx} (hi : i ≤ s.root) :
    (nodeAt s.arena i).leaf = false ↔ presentCount s.ft ≤ i.val := by
  refine ⟨fun hinternal => not_lt.mp fun hlt => ?_, fun hge => (h.mergeAt hge hi).internal⟩
  obtain ⟨e, -, hnode⟩ := h.exists_leaf hlt
  rw [hnode] at hinternal
  exact absurd hinternal (by simp [leafNode])

/-- The children of a merge differ, since their keys are in strict order. -/
theorem MergeAt.left_ne_right {arena : Vector Node 511} {n : Nat} {i : NodeIx} (h : MergeAt arena n i) :
    (nodeAt arena i).left ≠ (nodeAt arena i).right := fun heq =>
  ((keyLt_iff _ _).mp h.ordered).ne (congrArg (fun j => toLex (arenaKey arena j)) heq)

/-- Entry `j` is the left or the right child of entry `k`. -/
def IsChild (arena : Vector Node 511) (k j : NodeIx) : Prop := (nodeAt arena k).left = j ∨ (nodeAt arena k).right = j

/-- `todo` are the entries the walk has still to pop: those on the stack, once each, and the children of internal
entries of `todo`. -/
structure Frontier (s : State) (todo : Finset NodeIx) (stack : List NodeIx) : Prop where
  le_root : ∀ j ∈ todo, j ≤ s.root
  nodup : stack.Nodup
  stacked : ∀ j ∈ stack, j ∈ todo
  below : ∀ j, (j ∈ todo ∧ j ∉ stack) ↔ ∃ k ∈ todo, presentCount s.ft ≤ k.val ∧ IsChild s.arena k j

/-- At the start the stack holds the root: every other entry of the tree has a parent. -/
theorem frontier_root (h : s.TreeOfFt) : Frontier s (Finset.Iic s.root) [s.root] where
  le_root := fun j hj => Finset.mem_Iic.mp hj
  nodup := List.nodup_singleton _
  stacked := by simp
  below := by
    intro j
    simp only [Finset.mem_Iic, List.mem_singleton, ← ne_eq, ← lt_iff_le_and_ne]
    constructor
    · intro hlt
      obtain ⟨k, hge, hle, hchild⟩ := h.taken_of_lt_root hlt
      exact ⟨k, Nat.le_of_lt_succ hle, hge, hchild⟩
    · rintro ⟨k, hle, hge, hchild⟩
      exact ((h.mergeAt hge hle).child_lt hchild).trans_le hle

/-- With an empty stack nothing is left: the largest entry left would have its parent left. -/
theorem Frontier.eq_empty {todo : Finset NodeIx} (h : s.TreeOfFt) (hf : Frontier s todo []) : todo = ∅ := by
  by_contra hne
  obtain ⟨j, hj, hmax⟩ := todo.exists_max_image id (Finset.nonempty_iff_ne_empty.mpr hne)
  obtain ⟨k, hk, hge, hchild⟩ := (hf.below j).mp ⟨hj, List.not_mem_nil⟩
  exact absurd (hmax k hk) (not_le.mpr ((h.mergeAt hge (hf.le_root k hk)).child_lt hchild))

section
variable {todo : Finset NodeIx} {x : NodeIx} {rest : List NodeIx} (h : s.TreeOfFt) (hf : Frontier s todo (x :: rest))
include hf

/-- The rest of the stack is still to be popped after its top. -/
theorem Frontier.rest_subset (j : NodeIx) (hj : j ∈ rest) : j ∈ todo.erase x :=
  Finset.mem_erase.mpr
    ⟨ne_of_mem_of_not_mem hj (List.nodup_cons.mp hf.nodup).1, hf.stacked j (List.mem_cons_of_mem _ hj)⟩

include h

/-- A pop at a leaf leaves the rest of the stack: the leaf is nobody's parent. -/
theorem Frontier.pop_leaf (hleaf : (nodeAt s.arena x).leaf = true) : Frontier s (todo.erase x) rest where
  le_root := fun j hj => hf.le_root j (Finset.mem_of_mem_erase hj)
  nodup := hf.nodup.of_cons
  stacked := hf.rest_subset
  below := by
    intro j
    have hx : ∀ k ∈ todo, presentCount s.ft ≤ k.val → k ≠ x := by
      rintro k hk hge rfl
      exact absurd ((h.leaf_eq_false_iff (hf.le_root k hk)).mpr hge) (by simp [hleaf])
    calc j ∈ todo.erase x ∧ j ∉ rest
      _ ↔ j ∈ todo ∧ j ∉ x :: rest := by simp only [Finset.mem_erase, List.mem_cons]; tauto
      _ ↔ ∃ k ∈ todo, presentCount s.ft ≤ k.val ∧ IsChild s.arena k j := hf.below j
      _ ↔ ∃ k ∈ todo.erase x, presentCount s.ft ≤ k.val ∧ IsChild s.arena k j := by
        refine exists_congr fun k => ⟨fun ⟨hk, hge, hchild⟩ => ?_, And.imp_left Finset.mem_of_mem_erase⟩
        exact ⟨Finset.mem_erase.mpr ⟨hx k hk hge, hk⟩, hge, hchild⟩

/-- A pop at an internal entry puts its two children on the stack: they are different, and no other entry's children. -/
theorem Frontier.pop_internal (hinternal : (nodeAt s.arena x).leaf = false) :
    Frontier s (todo.erase x) ((nodeAt s.arena x).left :: (nodeAt s.arena x).right :: rest) := by
  have hx : x ∈ todo := hf.stacked x List.mem_cons_self
  have hge := (h.leaf_eq_false_iff (hf.le_root x hx)).mp hinternal
  have hmerge := h.mergeAt hge (hf.le_root x hx)
  obtain ⟨hleft, hleftFresh⟩ := (hf.below _).mpr ⟨x, hx, hge, .inl rfl⟩
  obtain ⟨hright, hrightFresh⟩ := (hf.below _).mpr ⟨x, hx, hge, .inr rfl⟩
  rw [List.mem_cons, not_or] at hleftFresh hrightFresh
  refine ⟨fun j hj => hf.le_root j (Finset.mem_of_mem_erase hj), ?nodup, ?stacked, fun j => ?below⟩
  case nodup =>
    simp [hmerge.left_ne_right, hleftFresh.2, hrightFresh.2, hf.nodup.of_cons]
  case stacked =>
    simp only [List.forall_mem_cons]
    exact ⟨Finset.mem_erase.mpr ⟨hleftFresh.1, hleft⟩, Finset.mem_erase.mpr ⟨hrightFresh.1, hright⟩, hf.rest_subset⟩
  case below =>
    have hother : ∀ k ∈ todo, presentCount s.ft ≤ k.val → IsChild s.arena k j → (k = x ↔ IsChild s.arena x j) :=
      fun k hk hkge hchild => ⟨fun heq => heq ▸ hchild, fun hxchild =>
        hmerge.child_unique hxchild (h.mergeAt hkge (hf.le_root k hk)) hge hkge hchild⟩
    calc j ∈ todo.erase x ∧ j ∉ (nodeAt s.arena x).left :: (nodeAt s.arena x).right :: rest
      _ ↔ (j ∈ todo ∧ j ∉ x :: rest) ∧ ¬ IsChild s.arena x j := by
        simp only [IsChild, Finset.mem_erase, List.mem_cons, eq_comm (a := j)]; tauto
      _ ↔ (∃ k ∈ todo, presentCount s.ft ≤ k.val ∧ IsChild s.arena k j) ∧ ¬ IsChild s.arena x j :=
        and_congr_left' (hf.below j)
      _ ↔ ∃ k ∈ todo.erase x, presentCount s.ft ≤ k.val ∧ IsChild s.arena k j := by
        simp only [Finset.mem_erase, ← exists_and_right]
        refine exists_congr fun k => ?_
        have := hother k
        tauto

end

/-- While `todo` is to be popped, the table's entry of `sym` is empty and every leaf of `sym` is in `todo`, or the entry
is the code of a path to a leaf of `sym`. -/
def CodedSoFar (s : State) (todo : Finset NodeIx) (ct : Vector CodeEntry 256) (sym : Byte) : Prop :=
  (codeAt ct sym = { len := 0, code := 0 } ∧
      ∀ j : NodeIx, j ≤ s.root → (nodeAt s.arena j).leaf = true → (nodeAt s.arena j).sym = sym → j ∈ todo) ∨
    ∃ bits, LeadsTo s.arena s.root bits sym ∧ codeAt ct sym = pathCode bits

variable {todo : Finset NodeIx} {ct : Vector CodeEntry 256} {sym : Byte}

theorem codedSoFar_emptyCodes : CodedSoFar s (Finset.Iic s.root) emptyCodes sym :=
  .inl ⟨codeAt_emptyCodes sym, fun _ hj _ _ => Finset.mem_Iic.mpr hj⟩

/-- An entry that is no leaf of `sym` need not be popped for it. -/
theorem CodedSoFar.erase {x : NodeIx} (h : CodedSoFar s todo ct sym)
    (hx : (nodeAt s.arena x).leaf = true → (nodeAt s.arena x).sym ≠ sym) : CodedSoFar s (todo.erase x) ct sym := by
  refine h.imp_left (And.imp_right fun hleaves j hj hleaf hsym => Finset.mem_erase.mpr ⟨?_, hleaves j hj hleaf hsym⟩)
  rintro rfl
  exact hx hleaf hsym

/-- Writing the leaf at the end of a path codes its symbol, and touches no other. -/
theorem CodedSoFar.write_leaf {bits : List Bool} (h : CodedSoFar s todo ct sym)
    (hpath : InternalPath s.arena s.root bits)
    (hleaf : (nodeAt s.arena (followBits s.arena s.root bits)).leaf = true) :
    CodedSoFar s (todo.erase (followBits s.arena s.root bits))
      (codeSet ct (nodeAt s.arena (followBits s.arena s.root bits)).sym (pathCode bits)) sym := by
  by_cases hsym : (nodeAt s.arena (followBits s.arena s.root bits)).sym = sym
  · exact .inr ⟨bits, ⟨hpath, hleaf, hsym⟩, by rw [hsym, codeAt_codeSet_same]⟩
  · rw [CodedSoFar, codeAt_codeSet_other _ _ hsym]
    exact h.erase fun _ => hsym

/-- A walk with a pop for each entry left codes every symbol. -/
theorem codeWalk_coded (h : s.TreeOfFt) {fuel : Nat} {paths : List (List Bool)}
    (hf : Frontier s todo (paths.map (followBits s.arena s.root))) (hfuel : todo.card ≤ fuel)
    (hpaths : ∀ p ∈ paths, InternalPath s.arena s.root p) (hct : CodedSoFar s todo ct sym) :
    CodedSoFar s ∅ (codeWalk fuel s.arena (paths.map (pathItem s.arena s.root)) ct) sym := by
  induction fuel generalizing todo paths ct with
  | zero =>
    obtain rfl : todo = ∅ := Finset.card_eq_zero.mp (Nat.le_zero.mp hfuel)
    exact hct
  | succ fuel ih =>
    cases paths with
    | nil =>
      obtain rfl : todo = ∅ := hf.eq_empty h
      exact hct
    | cons p ps =>
      obtain ⟨hp, hps⟩ := List.forall_mem_cons.mp hpaths
      have hcard : (todo.erase (followBits s.arena s.root p)).card ≤ fuel := by
        rw [Finset.card_erase_of_mem (hf.stacked _ List.mem_cons_self)]
        omega
      cases hleaf : (nodeAt s.arena (followBits s.arena s.root p)).leaf with
      | true =>
        rw [codeWalk_leaf fuel ct hleaf]
        exact ih (hf.pop_leaf h hleaf) hcard hps (hct.write_leaf hp hleaf)
      | false =>
        rw [codeWalk_internal fuel ct hleaf]
        refine ih (by simpa using hf.pop_internal h hleaf) hcard ?_ (hct.erase fun h => absurd h (by simp [hleaf]))
        simpa [hp, hleaf] using hps

end Sys2Proof.Machine
end

section
/-! GEN (`43_code_table.md` R230 to R239): the code table of the tree of a table, symbol by symbol, and its total. -/

namespace Sys2Proof.Machine

/-- A listed entry is a present symbol with its count. -/
theorem eq_ftGet_of_mem_presentEntries {ft : Vector Word 256} {e : Byte × Word} (h : e ∈ presentEntries ft) :
    e.2 = ftGet ft e.1 ∧ ftGet ft e.1 ≠ 0 := by
  rw [presentEntries_eq_map, presentBelow] at h
  obtain ⟨k, hk, rfl⟩ := List.mem_map.mp h
  exact ⟨rfl, by simpa [entryOf] using (List.mem_filter.mp hk).2⟩

variable {s : State} {sym : Byte}

/-- The leaves of the tree are those of the present symbols (R211). -/
theorem State.TreeOfFt.exists_leaf_iff (h : s.TreeOfFt) :
    (∃ j ≤ s.root, (nodeAt s.arena j).leaf = true ∧ (nodeAt s.arena j).sym = sym) ↔ ftGet s.ft sym ≠ 0 := by
  constructor
  · rintro ⟨j, hj, hleaf, rfl⟩
    have hlt : j.val < presentCount s.ft := not_le.mp fun hge =>
      absurd ((h.leaf_eq_false_iff hj).mpr hge) (by simp [hleaf])
    obtain ⟨e, he, hnode⟩ := h.exists_leaf hlt
    rw [hnode]
    exact (eq_ftGet_of_mem_presentEntries (List.mem_of_getElem? he)).2
  · intro hsym
    have hentry := presentEntries_getElem? hsym
    have hlt : (presentBelow s.ft sym.toNat).length < presentCount s.ft := (List.getElem?_eq_some_iff.mp hentry).1
    have hroot := h.root
    have hcount := presentCount_le s.ft
    have hnode := h.leaf (i := ⟨_, show (presentBelow s.ft sym.toNat).length < 511 by omega⟩) hentry
    exact ⟨_, show (presentBelow s.ft sym.toNat).length ≤ s.root.val by omega, by rw [hnode, leafNode],
      by rw [hnode, leafNode]⟩

/-- Each step down a path lowers the index. -/
theorem State.TreeOfFt.followBits_add_length_le (h : s.TreeOfFt) {bits : List Bool}
    (hpath : InternalPath s.arena s.root bits) :
    (followBits s.arena s.root bits).val + bits.length ≤ s.root.val := by
  induction bits using List.reverseRecOn with
  | nil => simp
  | append_singleton bits b ih =>
    obtain ⟨hpath, hinternal⟩ := (internalPath_snoc bits b).mp hpath
    have hle := ih hpath
    have hx : followBits s.arena s.root bits ≤ s.root := Fin.le_def.mpr (by omega)
    have hmerge := h.mergeAt ((h.leaf_eq_false_iff hx).mp hinternal) hx
    have hchild : (followBits s.arena s.root (bits ++ [b])).val < (followBits s.arena s.root bits).val := by
      cases b <;> simp [hmerge.left_lt, hmerge.right_lt]
    rw [List.length_append, List.length_singleton]
    omega

/-- A path to a leaf has at most N - 1 bits: above its last bit stands an internal node, from index N on (R234). -/
theorem State.TreeOfFt.length_le_of_leadsTo (h : s.TreeOfFt) {bits : List Bool}
    (hpath : LeadsTo s.arena s.root bits sym) : bits.length ≤ presentCount s.ft - 1 := by
  induction bits using List.reverseRecOn with
  | nil => simp
  | append_singleton bits b _ =>
    obtain ⟨hpath, hinternal⟩ := (internalPath_snoc bits b).mp hpath.1
    have hle := h.followBits_add_length_le hpath
    have hge := (h.leaf_eq_false_iff (Fin.le_def.mpr (by omega))).mp hinternal
    have hroot := h.root
    have hpos := h.present
    rw [List.length_append, List.length_singleton]
    omega

/-- The end of a path to a leaf is the leaf of a present symbol. -/
theorem State.TreeOfFt.present_of_leadsTo (h : s.TreeOfFt) {bits : List Bool}
    (hpath : LeadsTo s.arena s.root bits sym) : ftGet s.ft sym ≠ 0 := by
  obtain ⟨hinner, hend⟩ := hpath
  have hle := h.followBits_add_length_le hinner
  exact h.exists_leaf_iff.mp ⟨_, Fin.le_def.mpr (by omega), hend⟩

/-- ROOT is a leaf for N = 1 alone (R212). -/
theorem State.TreeOfFt.root_leaf_eq_false_iff (h : s.TreeOfFt) :
    (nodeAt s.arena s.root).leaf = false ↔ 2 ≤ presentCount s.ft := by
  have hroot := h.root
  have hpos := h.present
  rw [h.leaf_eq_false_iff le_rfl]
  omega

/-- What GEN writes for a symbol: nothing for an absent one; for a present one the code of a path of 1 to max(1, N - 1)
bits, which for N of at least 2 leads to the symbol's leaf (R231, R233 to R235). -/
def CodedByTree (s : State) (ct : Vector CodeEntry 256) (sym : Byte) : Prop :=
  (ftGet s.ft sym = 0 ∧ codeAt ct sym = { len := 0, code := 0 }) ∨
    ftGet s.ft sym ≠ 0 ∧ ∃ bits, codeAt ct sym = pathCode bits ∧ bits.length ≠ 0 ∧
      bits.length ≤ max 1 (presentCount s.ft - 1) ∧ (2 ≤ presentCount s.ft → LeadsTo s.arena s.root bits sym)

/-- The single leaf gets the code "0" (R235). -/
theorem State.TreeOfFt.coded_of_lt_two (h : s.TreeOfFt) (hN : presentCount s.ft < 2) (sym : Byte) :
    CodedByTree s (codesOf s.arena s.root) sym := by
  have hroot := h.root
  have hleaf : (nodeAt s.arena s.root).leaf = true := by
    rw [← Bool.not_eq_false, h.root_leaf_eq_false_iff]
    omega
  have hcodes : codesOf s.arena s.root = codeSet emptyCodes (nodeAt s.arena s.root).sym (pathCode [false]) :=
    if_pos hleaf
  have hpresent : ftGet s.ft sym ≠ 0 ↔ (nodeAt s.arena s.root).sym = sym := by
    rw [← h.exists_leaf_iff]
    refine ⟨fun ⟨j, hj, _, hsym⟩ => ?_, fun hsym => ⟨s.root, le_rfl, hleaf, hsym⟩⟩
    obtain rfl : j = s.root := Fin.ext (by have := Fin.le_def.mp hj; omega)
    exact hsym
  by_cases hsym : (nodeAt s.arena s.root).sym = sym
  · refine .inr ⟨hpresent.mpr hsym, [false], ?_, by simp, by simp, fun h2 => by omega⟩
    rw [hcodes, hsym, codeAt_codeSet_same]
  · refine .inl ⟨not_not.mp (hpresent.not.mpr hsym), ?_⟩
    rw [hcodes, codeAt_codeSet_other _ _ hsym, codeAt_emptyCodes]

/-- The walk codes the present symbols by the paths to their leaves, and no other symbol (R231, R233). -/
theorem State.TreeOfFt.coded_of_two_le (h : s.TreeOfFt) (hN : 2 ≤ presentCount s.ft) (sym : Byte) :
    CodedByTree s (codesOf s.arena s.root) sym := by
  have hinternal := h.root_leaf_eq_false_iff.mpr hN
  have hcodes : codesOf s.arena s.root = codeWalk 511 s.arena ([[]].map (pathItem s.arena s.root)) emptyCodes :=
    if_neg (by simp [hinternal])
  have hcoded : CodedSoFar s ∅ (codesOf s.arena s.root) sym :=
    hcodes ▸ codeWalk_coded h (frontier_root h) (card_finset_fin_le _) (by simp) codedSoFar_emptyCodes
  rcases hcoded with ⟨hempty, hnone⟩ | ⟨bits, hpath, hcode⟩
  · refine .inl ⟨not_not.mp fun hsym => ?_, hempty⟩
    obtain ⟨j, hj, hleaf, hjsym⟩ := h.exists_leaf_iff.mpr hsym
    exact absurd (hnone j hj hleaf hjsym) (Finset.notMem_empty j)
  · refine .inr ⟨h.present_of_leadsTo hpath, bits, hcode, fun hnil => ?_,
      (h.length_le_of_leadsTo hpath).trans (le_max_right _ _), fun _ => hpath⟩
    obtain rfl := List.eq_nil_of_length_eq_zero hnil
    exact absurd (hinternal.symm.trans hpath.2.1) (by decide)

theorem State.TreeOfFt.coded (h : s.TreeOfFt) (sym : Byte) :
    CodedByTree s (codesOf s.arena s.root) sym :=
  (lt_or_ge (presentCount s.ft) 2).elim (h.coded_of_lt_two · sym) (h.coded_of_two_le · sym)

/-- A sum over the present symbols, weighted by their counts, is the sum over all symbols. -/
theorem sum_presentEntries_mul (ft : Vector Word 256) (len : Byte → Nat) :
    ((presentEntries ft).map fun e => e.2.toNat * len e.1).sum =
      ((List.range 256).map fun k => (ftGet ft (BitVec.ofNat 8 k)).toNat * len (BitVec.ofNat 8 k)).sum := by
  rw [presentEntries_eq_map, presentBelow, List.map_map]
  induction List.range 256 with
  | nil => rfl
  | cons k ks ih =>
    by_cases h : ftGet ft (BitVec.ofNat 8 k) = 0#32 <;> simpa [h, entryOf] using ih

/-- The sum over the leaves is the sum over the present symbols. -/
theorem State.TreeOfFt.totalBits_eq (h : s.TreeOfFt) (ct : Vector CodeEntry 256) :
    totalBits s.arena ct s.nsym.toNat =
      ((presentEntries s.ft).map fun e => e.2.toNat * (codeAt ct e.1).len.toNat).sum := by
  rw [totalBits, h.nsym]
  congr 1
  refine List.ext_getElem (by simp [presentCount]) fun i hi hi' => ?_
  have hlt : i < (presentEntries s.ft).length := by simpa using hi'
  have hcount := presentCount_le s.ft
  have hval : (Fin.ofNat 511 i : NodeIx).val = i := Nat.mod_eq_of_lt (by unfold presentCount at hcount; omega)
  have hnode := h.leaf (i := Fin.ofNat 511 i) (by rw [hval]; exact List.getElem?_eq_getElem hlt)
  simp only [List.getElem_map, List.getElem_range, hnode, leafNode_w_toNat]
  rfl

/-- The total fits TBITS: the counts add up to less than 2^40, and no code is longer than 255 bits (R238). -/
theorem State.TreeOfFt.totalBits_lt (h : s.TreeOfFt) (ct : Vector CodeEntry 256) :
    totalBits s.arena ct s.nsym.toNat < 2 ^ 48 := by
  have hle : ((presentEntries s.ft).map fun e => e.2.toNat * (codeAt ct e.1).len.toNat).sum ≤
      ((presentEntries s.ft).map fun e => e.2.toNat * 255).sum :=
    List.sum_le_sum fun e _ => Nat.mul_le_mul_left _ (by omega)
  have hcounts := sum_presentEntries_lt s.ft
  rw [List.sum_map_mul_right] at hle
  rw [h.totalBits_eq]
  omega

theorem exec_gen_of_valid (h : s.treeValid = true) : exec .gen s = .next (genCodes s).ended :=
  congrArg Host.Outcome.next (if_pos h)

/-- What a GEN with a valid tree leaves in the code table and in TBITS. -/
theorem gen_next {t : State} (hvalid : s.treeValid = true) (ht : exec .gen s = .next t) :
    t.ct = codesOf s.arena s.root ∧ t.tbits = BitVec.ofNat 48 (totalBits s.arena t.ct s.nsym.toNat) := by
  obtain rfl : (genCodes s).ended = t := Host.Outcome.next.inj ((exec_gen_of_valid hvalid).symm.trans ht)
  exact ⟨rfl, rfl⟩

/-- Settles O46: the two cases of a symbol's entry, and TBITS as the sum over the leaves. -/
theorem genCodesAreThePathsToTheLeaves : Obligations.GenCodesAreThePathsToTheLeaves := by
  intro s t hvalid htree ht sym
  obtain ⟨hct, htbits⟩ := gen_next hvalid ht
  have htotal : t.tbits.toNat = totalBits s.arena t.ct s.nsym.toNat := by
    rw [htbits, BitVec.toNat_ofNat, Nat.mod_eq_of_lt (htree.totalBits_lt t.ct)]
  rw [htotal, htree.totalBits_eq, sum_presentEntries_mul _ fun a => (codeAt t.ct a).len.toNat, htree.nsym, hct]
  rcases htree.coded sym with ⟨habsent, hcode⟩ | ⟨hpresent, bits, hcode, hne, hle, hpath⟩
  · simp [hcode, habsent]
  · have hcount := presentCount_le s.ft
    have hlt : bits.length < 256 := by omega
    have hlen := pathCode_len_toNat hlt
    rw [hcode, codeBits_pathCode hlt, pathCode_code_toNat hlt, hlen]
    refine ⟨hle, iff_of_true (fun h0 => hne ?_) hpresent, pathValue_lt bits, fun hN _ => hpath hN, rfl⟩
    rw [← hlen, h0]
    rfl

/-- Two present symbols make N at least 2: with one entry both would be that entry. -/
theorem two_le_presentCount {ft : Vector Word 256} {a b : Byte} (ha : ftGet ft a ≠ 0) (hb : ftGet ft b ≠ 0)
    (hab : a ≠ b) : 2 ≤ presentCount ft := by
  have hmem {c : Byte} (hc : ftGet ft c ≠ 0) := List.mem_of_getElem? (presentEntries_getElem? hc)
  by_contra hlt
  have hone : (presentEntries ft).length = 1 := le_antisymm (by unfold presentCount at hlt; omega) (presentCount_pos ha)
  obtain ⟨e, he⟩ := List.length_eq_one_iff.mp hone
  have hea := List.mem_singleton.mp (he ▸ hmem ha)
  have heb := List.mem_singleton.mp (he ▸ hmem hb)
  exact hab (congrArg Prod.fst (hea.trans heb.symm))

/-- Settles O47: both codes are paths to leaves, and a leaf's path is a prefix of no other leaf's. -/
theorem genCodesArePrefixFree : Obligations.GenCodesArePrefixFree := by
  intro s t hvalid htree ht a b ha hb hab hprefix
  have hN : 2 ≤ s.nsym.toNat := htree.nsym ▸ two_le_presentCount ha hb hab
  have hpath {c : Byte} (hc : ftGet s.ft c ≠ 0) : LeadsTo s.arena s.root (codeBits (codeAt t.ct c)) c :=
    have ⟨_, _, _, hleads, _⟩ := genCodesAreThePathsToTheLeaves s t hvalid htree ht c
    hleads hN hc
  exact hab ((hpath ha).sym_eq_of_prefix (hpath hb) hprefix)

end Sys2Proof.Machine
end

section
/-! The soft reset by a CTRL write (`70_reset_and_hazards.md` R343, R344). -/

namespace Sys2Proof.Machine

theorem getLsbD_zero_bitAt {k : Nat} (hk : 0 < k) (b : Bool) : (bitAt k b).getLsbD 0 = false := by
  cases b <;> simp [bitAt, hk]

/-- SRST, CTRL's bit 0, reads 0: every configuration bit stands above it (`40_host_access.md` R152). -/
theorem getLsbD_zero_ctrlWord (c : Ctrl) : (ctrlWord c).getLsbD 0 = false := by
  simp (disch := decide) only [ctrlWord, BitVec.getLsbD_or, getLsbD_zero_bitAt, Bool.or_false]

theorem exec_rdCtrl (s : State) : exec .rdCtrl s = .next { s with rdata := ctrlWord s.ctrl } := rfl

theorem rewritesFt_eq_false_iff (q : Seq) :
    rewritesFt q = false ↔ decodeCmd q.word ≠ .ftClear ∧ decodeCmd q.word ≠ .hdrParse := by
  unfold rewritesFt
  split <;> simp_all

/-- A soft reset that aborts neither FT_CLEAR nor HDR_PARSE leaves the FT (R344). -/
theorem softReset_ft_kept {s : State}
    (h : ∀ q, s.seq = some q → decodeCmd q.word ≠ .ftClear ∧ decodeCmd q.word ≠ .hdrParse) :
    (softReset s).ft = s.ft := by
  rw [softReset_ft]
  cases hseq : s.seq with
  | none => rfl
  | some q => simp [(rewritesFt_eq_false_iff q).mpr (h q hseq)]

/-- Settles O15: the CTRL write is the soft reset with CTRL loaded, and each register it clears is a field of that state;
BUSY falls because the sequencer is empty. -/
theorem softResetClearsAllButFtAndConfiguration : Obligations.SoftResetClearsAllButFtAndConfiguration := by
  refine ⟨fun s => ⟨_, exec_rdCtrl s, getLsbD_zero_ctrlWord s.ctrl⟩, fun s d h => ?_⟩
  have hbusy : State.busy { softReset s with ctrl := ctrlOfData d } = false := busy_of_seq_none (softReset_seq s)
  obtain ⟨hparams, -⟩ := softReset_frame s
  exact ⟨_, exec_wrCtrl_of_srst s h, hbusy, rfl, rfl, rfl, rfl, rfl, rfl, rfl, rfl, rfl, rfl, rfl, rfl, rfl, rfl, rfl,
    rfl, rfl, rfl, rfl, rfl, softReset_ft_kept, hparams⟩

end Sys2Proof.Machine
end

section
/-! Decoding and encoding (`30_encoding.md` R110 to R116, `10_state.md` R20, R49, `20_memory.md` R85). A bus operation is
selected by its word number, offset bits 11:2, from word 38 on by range; a byte record is its code's number in base 256. -/

namespace Sys2Proof

theorem illegalWord_iff (w : Word) : illegalWord w = true ↔ 8 < w.toNat := by
  rw [← rsvd_ne_zero_or_opcode_gt_iff]
  simp [illegalWord]

/-- Masking with 0xFFC clears the two low bits (R85). -/
theorem wordOffset_eq_shift (off : Offset) : wordOffset off = (off >>> 2) <<< 2 := by
  have hmask : ∀ i, i < 12 → (0xFFC#12).getLsbD i = decide (2 ≤ i) := by decide
  refine BitVec.eq_of_getLsbD_eq fun i hi => ?_
  by_cases h2 : i < 2
  · simp [wordOffset, hmask i hi, h2]
  · simp [wordOffset, hmask i hi, hi, h2, not_lt.mp h2]

theorem wordOffset_toNat (off : Offset) : (wordOffset off).toNat = 4 * (off.toNat / 4) := by
  have hoff := off.isLt
  rw [wordOffset_eq_shift, BitVec.toNat_shiftLeft, BitVec.toNat_ushiftRight, Nat.shiftLeft_eq, Nat.shiftRight_eq_div_pow]
  omega

theorem wordOffset_of_aligned {off : Offset} (h : off.toNat % 4 = 0) : wordOffset off = off := by
  apply BitVec.eq_of_toNat_eq
  rw [wordOffset_toNat]
  omega

@[simp] theorem wordOffset_wordOffset (off : Offset) : wordOffset (wordOffset off) = wordOffset off :=
  wordOffset_of_aligned (by rw [wordOffset_toNat]; omega)

@[simp] theorem wordOffset_toNat_div (off : Offset) : (wordOffset off).toNat / 4 = off.toNat / 4 := by
  rw [wordOffset_toNat]
  omega

@[simp] theorem ftSymbol_wordOffset (off : Offset) : ftSymbol (wordOffset off) = ftSymbol off := by
  apply BitVec.eq_of_toNat_eq
  simp only [ftSymbol, BitVec.extractLsb'_toNat, wordOffset_toNat, Nat.shiftRight_eq_div_pow]
  omega

/-- Above the registers a read is selected by its range (`10_state.md` R20, R49). -/
theorem decodeRead_of_ge {off : Offset} (h : 38 ≤ off.toNat / 4) :
    decodeRead off =
      if off.toNat / 4 < 0x100 then .rdReservedLow (wordOffset off)
      else if off.toNat / 4 < 0x200 then .rdFt (ftSymbol off) else .rdReservedHigh (wordOffset off) := by
  unfold decodeRead
  split
  case h_39 => rfl
  all_goals omega

/-- Above the registers a write is selected by its range (`10_state.md` R20, R49). -/
theorem decodeWrite_of_ge {off : Offset} (h : 38 ≤ off.toNat / 4) (d : Word) :
    decodeWrite off d =
      if off.toNat / 4 < 0x100 then .wrReservedLow (wordOffset off) d
      else if off.toNat / 4 < 0x200 then .wrFt (ftSymbol off) d else .wrReservedHigh (wordOffset off) d := by
  unfold decodeWrite
  split
  case h_39 => rfl
  all_goals omega

theorem decodeRead_ftOffset (sym : Byte) : decodeRead (ftOffset sym) = .rdFt sym := by
  have hsym := sym.isLt
  have hword : (ftOffset sym).toNat / 4 = 256 + sym.toNat := by
    rw [Machine.ftOffset_toNat]
    omega
  rw [decodeRead_of_ge (by omega), if_neg (by omega), if_pos (by omega), Machine.ftSymbol_ftOffset]

theorem reservedLow_iff (off : Offset) :
    reservedLow off = true ↔ 0x098 ≤ off.toNat ∧ off.toNat ≤ 0x3FC ∧ off.toNat % 4 = 0 := by
  simp [reservedLow, and_assoc]

theorem reservedHigh_iff (off : Offset) : reservedHigh off = true ↔ 0x800 ≤ off.toNat ∧ off.toNat % 4 = 0 := by
  simp [reservedHigh]

/-- A word offset of the low reserved range is selected as one, read or written (R49). -/
theorem decode_reservedLow {off : Offset} (h : reservedLow off = true) (d : Word) :
    decodeRead off = .rdReservedLow off ∧ decodeWrite off d = .wrReservedLow off d := by
  obtain ⟨hge, hle, haligned⟩ := (reservedLow_iff off).mp h
  rw [decodeRead_of_ge (by omega), decodeWrite_of_ge (by omega), if_pos (by omega), if_pos (by omega),
    wordOffset_of_aligned haligned]
  exact ⟨rfl, rfl⟩

/-- A word offset of the high reserved range is selected as one, read or written (R49). -/
theorem decode_reservedHigh {off : Offset} (h : reservedHigh off = true) (d : Word) :
    decodeRead off = .rdReservedHigh off ∧ decodeWrite off d = .wrReservedHigh off d := by
  obtain ⟨hge, haligned⟩ := (reservedHigh_iff off).mp h
  rw [decodeRead_of_ge (by omega), decodeWrite_of_ge (by omega), if_neg (by omega), if_neg (by omega),
    if_neg (by omega), if_neg (by omega), wordOffset_of_aligned haligned]
  exact ⟨rfl, rfl⟩

theorem decodeCode_cmd (w : Word) : decodeCode (.cmd w) = decodeCmd w := rfl

theorem decodeCode_busRead (off : Offset) : decodeCode (busRead off) = decodeRead off := rfl

theorem decodeCode_busWrite (off : Offset) (d : Word) : decodeCode (busWrite off d) = decodeWrite off d := rfl

/-- The code of a well-formed instruction is selected as that instruction: the registers have one word number each, the
others are selected by their ranges. -/
theorem decodeCode_encode {i : Instr} (h : i.wellFormed = true) : decodeCode (encode i) = i := by
  cases i
  case illegalCmd w => exact (decodeCmd_eq_illegalCmd_iff w).mpr ((illegalWord_iff w).mp h)
  case rdFt sym => exact decodeRead_ftOffset sym
  case wrFt sym d => exact Machine.decodeWrite_ftOffset sym d
  case rdReservedLow off => exact (decode_reservedLow h 0).1
  case wrReservedLow off d => exact (decode_reservedLow h d).2
  case rdReservedHigh off => exact (decode_reservedHigh h 0).1
  case wrReservedHigh off d => exact (decode_reservedHigh h d).2
  all_goals
    simp only [encode, decodeCode_cmd, decodeCode_busRead, decodeCode_busWrite]
    rfl

@[simp] theorem leBytes_length (n v : Nat) : (leBytes n v).length = n := by
  induction n generalizing v with
  | zero => rfl
  | succ n ih => rw [leBytes, List.length_cons, ih]

/-- The low bytes of a number spell it modulo their range. -/
theorem leNat_leBytes (n v : Nat) : leNat (leBytes n v) = v % 256 ^ n := by
  induction n generalizing v with
  | zero => rw [pow_zero, Nat.mod_one]; rfl
  | succ n ih =>
    rw [leBytes, leNat, ih, BitVec.toNat_ofNat, pow_succ' 256, Nat.mod_mul]

/-- A command word is read back from its four bytes (R110). -/
theorem readCode_cmd (w : Word) : readCode (leBytes 4 w.toNat) = .ok (.cmd w) := by
  have hw : w.toNat % 256 ^ 4 = w.toNat := Nat.mod_eq_of_lt w.isLt
  rw [readCode, if_pos (leBytes_length ..), leNat_leBytes, hw, BitVec.ofNat_toNat, BitVec.setWidth_eq]

theorem natOfBus_lt (b : BusWord) : natOfBus b < 2 ^ 49 := by
  have hwrite := b.write.toNat_lt
  unfold natOfBus
  omega

theorem natOfBus_div (b : BusWord) : natOfBus b / 2 ^ 48 = b.write.toNat := by
  unfold natOfBus
  omega

/-- The fields of a bus record are the digits of its number (log 12). -/
theorem busOfNat_natOfBus (b : BusWord) : busOfNat (natOfBus b) = b := by
  have hwrite : (b.write.toNat % 2 == 1) = b.write := by cases b.write <;> rfl
  have hoff : BitVec.ofNat 12 (natOfBus b) = b.off := by
    apply BitVec.eq_of_toNat_eq
    rw [BitVec.toNat_ofNat, natOfBus]
    omega
  have hstrobe : BitVec.ofNat 4 (natOfBus b / 2 ^ 12) = b.strobe := by
    apply BitVec.eq_of_toNat_eq
    rw [BitVec.toNat_ofNat, natOfBus]
    omega
  have hdata : BitVec.ofNat 32 (natOfBus b / 2 ^ 16) = b.data := by
    apply BitVec.eq_of_toNat_eq
    rw [BitVec.toNat_ofNat, natOfBus]
    omega
  rw [busOfNat, natOfBus_div, hwrite, hoff, hstrobe, hdata]

/-- A bus operation is read back from its seven bytes (R115; log 12). -/
theorem readCode_bus (b : BusWord) : readCode (leBytes 7 (natOfBus b)) = .ok (.bus b) := by
  have hb : natOfBus b % 256 ^ 7 = natOfBus b := Nat.mod_eq_of_lt ((natOfBus_lt b).trans (by decide))
  have hdir : natOfBus b / 2 ^ 48 ≤ 1 := natOfBus_div b ▸ b.write.toNat_le
  rw [readCode, if_neg (by simp), if_pos (leBytes_length ..), leNat_leBytes, hb, if_pos hdir, busOfNat_natOfBus]

/-- The byte record of an instruction is the record of its code. -/
theorem readCode_encodeBytes (i : Instr) : readCode (encodeBytes i) = .ok (encode i) := by
  unfold encodeBytes
  cases encode i with
  | cmd w => exact readCode_cmd w
  | bus b => exact readCode_bus b

/-- Settles O1: the code of an instruction selects it, and its byte record spells that code. -/
theorem decodeOfEncodeIsTheInstruction : Obligations.DecodeOfEncodeIsTheInstruction := by
  intro i h
  refine ⟨decodeCode_encode h, ?_⟩
  rw [decodeBytes, readCode_encodeBytes]
  exact congrArg Decoded.instr (decodeCode_encode h)

theorem decodeCmd_wellFormed (w : Word) : (decodeCmd w).wellFormed = true := by
  unfold decodeCmd
  split
  case h_10 =>
    refine (illegalWord_iff w).mpr ?_
    simp only [imp_false] at *
    omega
  all_goals rfl

/-- A reserved range is entered at its word offsets alone, the access's low bits being cleared. -/
theorem wordOffset_reserved {off : Offset} (h : 38 ≤ off.toNat / 4) :
    (off.toNat / 4 < 0x100 → reservedLow (wordOffset off) = true) ∧
      (0x200 ≤ off.toNat / 4 → reservedHigh (wordOffset off) = true) := by
  have hoff := off.isLt
  rw [reservedLow_iff, reservedHigh_iff, wordOffset_toNat]
  omega

theorem decodeRead_wellFormed (off : Offset) : (decodeRead off).wellFormed = true := by
  unfold decodeRead
  split
  case h_39 =>
    obtain ⟨hlow, hhigh⟩ := wordOffset_reserved (off := off) (by simp only [imp_false] at *; omega)
    split
    · exact hlow ‹_›
    · split
      · rfl
      · exact hhigh (by omega)
  all_goals rfl

theorem decodeWrite_wellFormed (off : Offset) (d : Word) : (decodeWrite off d).wellFormed = true := by
  unfold decodeWrite
  split
  case h_39 =>
    obtain ⟨hlow, hhigh⟩ := wordOffset_reserved (off := off) (by simp only [imp_false] at *; omega)
    split
    · exact hlow ‹_›
    · split
      · rfl
      · exact hhigh (by omega)
  all_goals rfl

/-- Settles O2: the cases of the three decoders. -/
theorem decodedInstructionsAreWellFormed : Obligations.DecodedInstructionsAreWellFormed := by
  intro c
  cases c with
  | cmd w => exact decodeCmd_wellFormed w
  | bus b =>
    change (decodeBus b).wellFormed = true
    unfold decodeBus
    split
    · exact decodeWrite_wellFormed b.off b.data
    · exact decodeRead_wellFormed b.off

theorem decodeRead_wordOffset (off : Offset) : decodeRead (wordOffset off) = decodeRead off := by
  simp only [decodeRead, wordOffset_toNat_div, wordOffset_wordOffset, ftSymbol_wordOffset]

theorem decodeWrite_wordOffset (off : Offset) (d : Word) : decodeWrite (wordOffset off) d = decodeWrite off d := by
  simp only [decodeWrite, wordOffset_toNat_div, wordOffset_wordOffset, ftSymbol_wordOffset]

/-- Settles O4: a bus operation is selected by its word number, range and symbol, which the two low bits do not touch. -/
theorem lowAddressBitsAndStrobesAreIgnored : Obligations.LowAddressBitsAndStrobesAreIgnored := by
  intro b strobe data
  refine ⟨rfl, ?offset, fun hread => by simp [decodeBus, hread]⟩
  change (if b.write then decodeWrite (wordOffset b.off) b.data else decodeRead (wordOffset b.off)) = decodeBus b
  rw [decodeWrite_wordOffset, decodeRead_wordOffset]
  rfl

/-- Settles O5: the decoders run on the words and offsets. -/
theorem specWordsDecode : Obligations.SpecWordsDecode := by
  unfold Obligations.SpecWordsDecode
  decide

end Sys2Proof
end

section
/-! Host reads (`40_host_access.md` R150 to R167, `10_state.md` R20 to R45, R60): the classes of bus operations that change
nothing but the read-data port, and the words that the reads answer with. -/

namespace Sys2Proof.Machine

theorem exec_of_ignoredWrite {i : Instr} (h : ignoredWrite i = true) (s : State) : exec i s = .next s := by
  unfold ignoredWrite at h
  split at h
  case h_34 => cases h
  all_goals rfl

/-- The reads that R60 leaves unspecified while BUSY = 1 are reads of one word while BUSY = 0. -/
theorem exec_of_busyUnspecified {i : Instr} (h : busyUnspecified i = true) (s : State) :
    ∃ v, exec i s = .next (readWhenIdle s v) := by
  unfold busyUnspecified at h
  split at h
  case h_25 => cases h
  all_goals exact ⟨_, rfl⟩

/-- Settles O31: a read that is defined while idle only answers a free word while BUSY = 1. -/
theorem busyReadsReturnFreeWords : Obligations.BusyReadsReturnFreeWords := by
  intro i s h hbusy
  obtain ⟨v, hv⟩ := exec_of_busyUnspecified h s
  rw [hv, readWhenIdle_busy hbusy]
  rfl

/-- Settles O24: the ignored writes, and the reads whose word is 0 in every state. -/
theorem readOnlyAndReservedWritesChangeNothing : Obligations.ReadOnlyAndReservedWritesChangeNothing :=
  ⟨fun _ s h => exec_of_ignoredWrite h s, fun _ _ => ⟨rfl, rfl, rfl, rfl, rfl⟩⟩

/-- Settles O23: the equations of the two selector writes. -/
theorem selectorWritesLoadLowBits : Obligations.SelectorWritesLoadLowBits := fun s d =>
  ⟨exec_wrCtSel s d, exec_wrNdSel s d⟩

/-- While BUSY = 0 a read defined then answers its word and changes nothing else. -/
theorem next_readWhenIdle {s : State} (h : s.busy = false) {v v' : Word} (hv : v = v') :
    Host.Outcome.next (readWhenIdle s v) = (.next { s with rdata := v' } : Result) :=
  hv ▸ congrArg Host.Outcome.next (readWhenIdle_idle h v)

/-- The HI half of a register of up to 64 bits is its bits from 32 on, zero-extended (`10_state.md` R40 to R42). -/
theorem hiHalf_eq {w : Nat} (v : BitVec w) {k : Nat} (hw : w ≤ 32 + k) (hk : k ≤ 32) :
    hiHalf v = (v.extractLsb' 32 k).setWidth 32 := by
  apply BitVec.eq_of_toNat_eq
  have hv := v.isLt
  have hpow : 2 ^ w ≤ 2 ^ 32 * 2 ^ k := by
    rw [← pow_add]
    exact Nat.pow_le_pow_right (by decide) hw
  have hlt : v.toNat / 2 ^ 32 < 2 ^ k := Nat.div_lt_of_lt_mul (hv.trans_le hpow)
  have hlt' : v.toNat / 2 ^ 32 < 2 ^ 32 := hlt.trans_le (Nat.pow_le_pow_right (by decide) hk)
  simp only [hiHalf, BitVec.extractLsb'_toNat, BitVec.toNat_setWidth, Nat.shiftRight_eq_div_pow]
  rw [Nat.mod_eq_of_lt hlt, Nat.mod_eq_of_lt hlt']

/-- Settles O28: each read is one of those defined while BUSY = 0, of its register's word. -/
theorem resultAndFtReadsWhileIdle : Obligations.ResultAndFtReadsWhileIdle := by
  intro s h
  have hread {v v' : Word} (hv : v = v') := next_readWhenIdle h hv
  exact ⟨hread rfl, hread rfl, hread rfl, hread (hiHalf_eq s.symcnt (by decide) (by decide)), hread rfl,
    hread (hiHalf_eq s.tbits (by decide) (by decide)), hread rfl, hread rfl, hread rfl,
    hread (hiHalf_eq s.dcount (by decide) (by decide)), fun sym => hread rfl⟩

theorem selectedCode_of_valid {s : State} (h : s.ctValid = true) : selectedCode s = codeAt s.ct s.ctSel := if_pos h

theorem selectedCode_of_invalid {s : State} (h : s.ctValid = false) : selectedCode s = { len := 0, code := 0 } :=
  if_neg (Bool.eq_false_iff.mp h)

/-- Settles O29: the nine reads are those of the selected entry. -/
theorem codeReadoutWhileIdle : Obligations.CodeReadoutWhileIdle := by
  intro s h
  have hread {v v' : Word} (hv : v = v') := next_readWhenIdle h hv
  refine ⟨fun hinvalid i hi => ?invalid, fun hvalid => ?valid⟩
  case invalid =>
    have hzero {α : Type} (f : CodeEntry → α) : f (selectedCode s) = f { len := 0, code := 0 } :=
      congrArg f (selectedCode_of_invalid hinvalid)
    simp only [List.mem_cons, List.not_mem_nil, or_false] at hi
    rcases hi with rfl | rfl | rfl | rfl | rfl | rfl | rfl | rfl | rfl
    case inl => exact hread (hzero fun e => zext32 e.len)
    all_goals exact hread (hzero fun e => codeWord _ e.code)
  case valid =>
    rw [← selectedCode_of_valid hvalid]
    exact ⟨hread rfl, hread rfl, hread rfl, hread rfl, hread rfl, hread rfl, hread rfl, hread rfl, hread rfl⟩

theorem nodeReadout_of_hidden {s : State} (h : s.treeValid = false ∨ s.root.val < s.ndSel.toNat) (f : Node → Word) :
    nodeReadout s f = 0 := by
  have hnone : ¬ (s.treeValid = true ∧ s.ndSel.toNat ≤ s.root.val) := by
    rcases h with hinvalid | habove
    · simp [hinvalid]
    · exact fun hshown => absurd hshown.2 (not_le.mpr habove)
  rw [nodeReadout, selectedNode, dif_neg hnone]
  rfl

theorem nodeReadout_of_shown {s : State} {i : NodeIx} (hvalid : s.treeValid = true) (hsel : s.ndSel.toNat = i.val)
    (hroot : i.val ≤ s.root.val) (f : Node → Word) : nodeReadout s f = f (nodeAt s.arena i) := by
  have hix : (⟨s.ndSel.toNat, by omega⟩ : NodeIx) = i := Fin.ext hsel
  rw [nodeReadout, selectedNode, dif_pos ⟨hvalid, hsel ▸ hroot⟩]
  exact congrArg (fun j => f (nodeAt s.arena j)) hix

theorem getLsbD_bitAt {k : Nat} (hk : k < 32) (b : Bool) (j : Nat) : (bitAt k b).getLsbD j = (decide (j = k) && b) := by
  cases b with
  | false => simp [bitAt]
  | true =>
    rw [bitAt, if_pos rfl, ← BitVec.twoPow_eq, BitVec.getLsbD_twoPow]
    simp only [Bool.and_true, hk, decide_true, Bool.true_and, eq_comm]

/-- ND_INFO field by field (`10_state.md` R44). -/
theorem nodeInfoWord_eq (n : Node) :
    nodeInfoWord n = 1#1 ++ 0#15 ++ (if n.leaf then n.sym else 0#8) ++ 0#7 ++ BitVec.ofBool n.leaf := by
  unfold nodeInfoWord
  cases n.leaf with
  | false =>
    rw [if_neg Bool.false_ne_true, if_neg Bool.false_ne_true]
    rfl
  | true =>
    refine BitVec.eq_of_getLsbD_eq fun k hk => ?_
    simp only [BitVec.getLsbD_or, getLsbD_bitAt (k := 31) (by decide), getLsbD_bitAt (k := 0) (by decide),
      BitVec.getLsbD_append]
    interval_cases k <;> simp [zext32]

theorem setWidth_or_shiftLeft_eq_append (x y : BitVec 9) :
    x.setWidth 32 ||| (y.setWidth 32 <<< 16) = 0#7 ++ y ++ 0#7 ++ x := by
  refine BitVec.eq_of_getLsbD_eq fun k hk => ?_
  simp only [BitVec.getLsbD_or, BitVec.getLsbD_append]
  interval_cases k <;> simp

/-- An arena index has 9 bits (`10_state.md` R48). -/
theorem ofNat_nodeIx (i : NodeIx) : BitVec.ofNat 32 i.val = (BitVec.ofNat 9 i.val).setWidth 32 := by
  have hi : i.val < 511 := i.isLt
  apply BitVec.eq_of_toNat_eq
  simp only [BitVec.toNat_ofNat, BitVec.toNat_setWidth]
  omega

/-- ND_CHILD field by field (`10_state.md` R44). -/
theorem nodeChildWord_eq (n : Node) :
    nodeChildWord n =
      if n.leaf then 0#32 else 0#7 ++ BitVec.ofNat 9 n.right.val ++ 0#7 ++ BitVec.ofNat 9 n.left.val := by
  rw [nodeChildWord, ofNat_nodeIx, ofNat_nodeIx, setWidth_or_shiftLeft_eq_append]

/-- Settles O30: the four reads are those of the selected node, or of none. -/
theorem nodeReadoutWhileIdle : Obligations.NodeReadoutWhileIdle := by
  intro s h
  have hread {v v' : Word} (hv : v = v') := next_readWhenIdle h hv
  refine ⟨fun hhidden i hi => ?hidden, fun i hvalid hsel hroot => ?shown⟩
  case hidden =>
    simp only [List.mem_cons, List.not_mem_nil, or_false] at hi
    rcases hi with rfl | rfl | rfl | rfl
    all_goals exact hread (nodeReadout_of_hidden hhidden _)
  case shown =>
    have hnode := nodeReadout_of_shown hvalid hsel hroot
    exact ⟨hread ((hnode _).trans (nodeInfoWord_eq _)), hread ((hnode _).trans (nodeChildWord_eq _)), hread (hnode _),
      hread ((hnode _).trans (hiHalf_eq _ (by decide) (by decide)))⟩

/-- CTRL bit by bit (`40_host_access.md` R152). -/
theorem ctrlWord_eq (c : Ctrl) :
    ctrlWord c = 0#27 ++ BitVec.ofBool c.ie ++ BitVec.ofBool c.padchk ++ BitVec.ofBool c.cntchk ++
      BitVec.ofBool c.padmode ++ 0#1 := by
  obtain ⟨padmode, cntchk, padchk, ie⟩ := c
  revert padmode cntchk padchk ie
  decide

/-- Bit `j` of STATUS, the two valid bits aside (`10_state.md` R24, R59). -/
theorem getLsbD_statusDefined (s : State) (j : Nat) :
    (statusDefined s).getLsbD j =
      (decide (j = 0) && s.busy || decide (j = 1) && s.err || decide (j = 2) && s.done || decide (j = 5) && s.inEmpty ||
        decide (j = 6) && s.inFull || decide (j = 7) && s.outEmpty || decide (j = 8) && s.outFull ||
        decide (j = 9) && s.wdrop || decide (j = 10) && s.irq) := by
  simp (disch := decide) only [statusDefined, BitVec.getLsbD_or, getLsbD_bitAt]

theorem getLsbD_statusValid (s : State) (j : Nat) :
    (statusValid s).getLsbD j = (decide (j = 3) && s.treeValid || decide (j = 4) && s.ctValid) := by
  simp (disch := decide) only [statusValid, BitVec.getLsbD_or, getLsbD_bitAt]

/-- The bits of a free word that STATUS shows while BUSY = 1 are 3 and 4 (`10_state.md` R60; log 21). -/
theorem getLsbD_and_0x18 (w : Word) (j : Nat) :
    (w &&& 0x18#32).getLsbD j = (decide (j = 3 ∨ j = 4) && w.getLsbD j) := by
  have hmask : ∀ j, j < 32 → (0x18#32).getLsbD j = decide (j = 3 ∨ j = 4) := by decide
  rw [BitVec.getLsbD_and, Bool.and_comm]
  by_cases hj : j < 32
  · rw [hmask j hj]
  · simp [BitVec.getLsbD_of_ge _ _ (not_lt.mp hj)]

/-- What a STATUS read shows: the defined bits, with the valid bits while BUSY = 0 or two free ones while BUSY = 1. -/
theorem exec_rdStatus (s : State) :
    ∃ t, exec .rdStatus s = .next t ∧ t = { s with rdata := t.rdata, draws := t.draws } ∧
      t.rdata = statusDefined s ||| (if s.busy then Config.freeWord s.draws &&& 0x18#32 else statusValid s) ∧
      t.draws = if s.busy then s.draws + 1 else s.draws := by
  refine ⟨_, rfl, ?_⟩
  cases s.busy <;> exact ⟨rfl, rfl, rfl⟩

/-- Settles O25: the words of the two reads, bit by bit. -/
theorem ctrlAndStatusReadTheirBits : Obligations.CtrlAndStatusReadTheirBits := by
  refine ⟨fun s => ⟨_, exec_rdCtrl s, rfl, ctrlWord_eq s.ctrl⟩, fun s => ?status⟩
  obtain ⟨t, ht, hframe, hword, hdraws⟩ := exec_rdStatus s
  refine ⟨t, ht, hframe, ?_⟩
  have hbit (j : Nat) : t.rdata.getLsbD j = ((statusDefined s).getLsbD j ||
      if s.busy then decide (j = 3 ∨ j = 4) && (Config.freeWord s.draws).getLsbD j else (statusValid s).getLsbD j) := by
    rw [hword, BitVec.getLsbD_or, ← getLsbD_and_0x18]
    exact congrArg _ (apply_ite (BitVec.getLsbD · j) ..)
  simp only [hbit, getLsbD_statusDefined, getLsbD_statusValid]
  refine ⟨by simp, by simp, by simp, fun h => by simp [h, hdraws], fun h => by simp [h, hdraws], ?inEmpty, ?inFull,
    ?outEmpty, ?outFull, by simp, ?irq, fun k hk => ?high⟩
  case inEmpty => change _ = s.inEmpty; simp
  case inFull => change _ = s.inFull; simp
  case outEmpty => change _ = s.outEmpty; simp
  case outFull => change _ = s.outFull; simp
  case irq => change _ = s.irq; simp
  case high =>
    have hne : ∀ c, c < 11 → k ≠ c := by omega
    simp [hne]

end Sys2Proof.Machine
end

section
/-! One step, by the agent to move and what stands before it (`20_memory.md` R88, `41_control_commands.md` R191; log 1, log 2,
log 13, log 14). -/

namespace Sys2Proof.Machine

/-- Settles O8: every arm of `exec` answers a next state. -/
theorem everyInstructionAnswersANextState : Obligations.EveryInstructionAnswersANextState := by
  intro i s
  cases i
  all_goals exact ⟨_, rfl⟩

variable {s : State}

theorem step_of_engine {q : Seq} (hagent : nextAgent s = .engine) (hseq : s.seq = some q) (hrst : s.rstN = true) :
    step s = exec (decodeCmd q.word) { s with sched := s.sched.tail } := by
  simp [step, fetch, hagent, fetchEngine, tick, hseq, hrst]

/-- The engine holds while nothing runs or `rst_n` is asserted. -/
theorem step_of_engine_still (hagent : nextAgent s = .engine) (hstill : s.seq = none ∨ s.rstN = false) :
    step s = .next { s with sched := s.sched.tail } := by
  cases hseq : s.seq with
  | none => simp [step, fetch, hagent, fetchEngine, tick, hseq]
  | some q =>
    have hrst : s.rstN = false := hstill.resolve_left (by simp [hseq])
    simp [step, fetch, hagent, fetchEngine, tick, hseq, hrst]

theorem step_of_no_input (hagent : nextAgent s = .host) (hinputs : s.inputs = []) :
    step s = .next { s with sched := s.sched.tail } := by
  simp [step, fetch, hagent, fetchHost, tick, hinputs]

theorem step_of_resetPin {level : Bool} {rest : List Input} (hagent : nextAgent s = .host)
    (hinputs : s.inputs = .resetPin level :: rest) :
    step s = .next (setResetPin { s with inputs := rest, sched := s.sched.tail } level) := by
  simp [step, fetch, hagent, fetchHost, tick, hinputs]

section
variable {a : Access} {rest : List Input} (hagent : nextAgent s = .host) (hinputs : s.inputs = .access a :: rest)
include hagent hinputs

theorem step_of_access {off : Offset} (hrst : s.rstN = true) (hoff : windowOffset s.params a.addr = some off) :
    step s = exec (decodeBus { write := a.write, off := off, strobe := a.strobe, data := a.data })
      { s with inputs := rest, sched := s.sched.tail } := by
  simp [step, fetch, hagent, fetchHost, tick, hinputs, fetchAccess, hrst, hoff]

theorem step_of_access_in_reset (hrst : s.rstN = false) : step s = .refused .accessInReset := by
  simp [step, fetch, hagent, fetchHost, tick, hinputs, fetchAccess, hrst]

theorem step_of_access_outside (hrst : s.rstN = true) (hoff : windowOffset s.params a.addr = none) :
    step s = .refused .outsideWindow := by
  simp [step, fetch, hagent, fetchHost, tick, hinputs, fetchAccess, hrst, hoff]

end

/-- Settles O6: the equations of the two agents; an address of the window has the offset it was made from. -/
theorem stepRunsTheDecodedInstruction : Obligations.StepRunsTheDecodedInstruction := by
  refine ⟨fun s a rest off hagent hinputs hrst haddr => ?_, fun s q => step_of_engine, fun s a rest hsched => ?_⟩
  · exact step_of_access hagent hinputs hrst (windowOffset_of_toNat haddr)
  · rw [nextAgent, hsched]

/-- With the pin high and every pending access inside the window, each agent has a next state. -/
theorem safeStep_of_inputs_in_window (hrst : s.rstN = true)
    (hwindow : ∀ a, .access a ∈ s.inputs → ∃ off, windowOffset s.params a.addr = some off) : SafeStep s := by
  cases hagent : nextAgent s with
  | host =>
    cases hinputs : s.inputs with
    | nil => exact ⟨_, step_of_no_input hagent hinputs⟩
    | cons input rest =>
      cases input with
      | resetPin level => exact ⟨_, step_of_resetPin hagent hinputs⟩
      | access a =>
        obtain ⟨off, hoff⟩ := hwindow a (by rw [hinputs]; exact List.mem_cons_self)
        rw [SafeStep, step_of_access hagent hinputs hrst hoff]
        exact everyInstructionAnswersANextState ..
  | engine =>
    cases hseq : s.seq with
    | none => exact ⟨_, step_of_engine_still hagent (.inl hseq)⟩
    | some q =>
      rw [SafeStep, step_of_engine hagent hseq hrst]
      exact everyInstructionAnswersANextState ..

/-- Settles O7: the equations of an access, by the pin and the window; no fault has a name. -/
theorem stepStopsOnlyInResetOrOutsideWindow : Obligations.StepStopsOnlyInResetOrOutsideWindow := by
  refine ⟨fun s hrst hwindow => ?safe, fun s a rest hagent hinputs => ⟨?reset, fun hrst hout => ?outside⟩,
    fun s f => nomatch f⟩
  case safe =>
    refine safeStep_of_inputs_in_window hrst fun a ha => ?_
    rw [windowOffset_eq, if_pos (hwindow a ha)]
    exact ⟨_, rfl⟩
  case reset => exact step_of_access_in_reset hagent hinputs
  case outside => exact step_of_access_outside hagent hinputs hrst (windowOffset_none_iff.mpr hout)

/-- An invariant of the machine: it does not speak of the schedule or the pending inputs, and bus operations, the steps of
the running command and the reset pin keep it. -/
theorem step_keeps {P : State → Prop} (hframe : ∀ s inputs sched, P s → P { s with inputs := inputs, sched := sched })
    (hbus : ∀ i s t, i.isCommand = false → s.rstN = true → P s → exec i s = .next t → P t)
    (hcmd : ∀ q s t, s.seq = some q → s.rstN = true → P s → exec (decodeCmd q.word) s = .next t → P t)
    (hpin : ∀ s level, P s → P (setResetPin s level)) (s t : State) (hs : P s) (h : step s = .next t) : P t := by
  have hs' (inputs : List Input) : P { s with inputs := inputs, sched := s.sched.tail } := hframe s inputs s.sched.tail hs
  rcases step_cases h with ⟨i, inputs, hi, hrst, hexec⟩ | ⟨q, hseq, hrst, hexec⟩ | rfl | ⟨level, inputs, rfl⟩
  · exact hbus i { s with inputs := inputs, sched := s.sched.tail } t hi hrst (hs' inputs) hexec
  · exact hcmd q { s with sched := s.sched.tail } t hseq hrst (hs' s.inputs) hexec
  · exact hs' s.inputs
  · exact hpin _ level (hs' inputs)

end Sys2Proof.Machine
end

section
/-! Everything a bus operation can do (`40_host_access.md` R150 to R168, `41_control_commands.md` R190, `70_reset_and_hazards.md`
R343), said once. -/

namespace Sys2Proof.Machine

/-- The states a bus operation leads to: the read-data port alone has changed, or a byte is popped, or a write is dropped or
has its effect. -/
inductive BusEffect (s : State) : Instr → State → Prop where
  | port {i : Instr} (v : Word) (n : Nat) : BusEffect s i { s with rdata := v, draws := n }
  | pop {b : Byte} {rest : List Byte} (v : Word) (hfifo : s.outFifo = b :: rest) :
      BusEffect s .rdOutData { s with outFifo := rest, rdata := v }
  | drop {i : Instr} (hwrite : isRead i = false) : BusEffect s i s.dropped
  | configure (d : Word) (hsrst : d.getLsbD 0 = false) (hidle : s.busy = false) :
      BusEffect s (.wrCtrl d) { s with ctrl := ctrlOfData d }
  | reset (d : Word) (hsrst : d.getLsbD 0 = true) : BusEffect s (.wrCtrl d) { softReset s with ctrl := ctrlOfData d }
  | accept (w : Word) (hidle : s.busy = false) (herr : s.err = false) :
      BusEffect s (.wrCmd w) { s with done := false, seq := some { word := w, consumed := 0, pos := .start } }
  | illegal (w : Word) (hidle : s.busy = false) (herr : s.err = false) :
      BusEffect s (.wrCmd w) (State.failed { s with done := false } 0x01 w)
  | acknowledge (d : Word) : BusEffect s (.wrAck d) (acknowledge s d)
  | push (d : Word) (hroom : s.inFifo.length ≠ s.params.ififoDepth) :
      BusEffect s (.wrInData d) { s with inFifo := s.inFifo ++ [d.extractLsb' 0 8] }
  | budget (d : Word) (hidle : s.busy = false) : BusEffect s (.wrInRemain d) { s with inRemain := d }
  | codeSel (d : Word) : BusEffect s (.wrCtSel d) { s with ctSel := d.extractLsb' 0 8 }
  | nodeSel (d : Word) : BusEffect s (.wrNdSel d) { s with ndSel := d.extractLsb' 0 9 }
  | count (sym : Byte) (d : Word) (hidle : s.busy = false) :
      BusEffect s (.wrFt sym d) { s with ft := ftSet s.ft sym d, treeValid := false, ctValid := false }

variable {i : Instr} {s t : State}

theorem BusEffect.of_readWhenIdle (v : Word) : BusEffect s i (readWhenIdle s v) := by
  unfold readWhenIdle
  split
  · exact .port _ _
  · exact .port v s.draws

theorem BusEffect.of_wrCtrl {d : Word} (h : exec (.wrCtrl d) s = .next t) : BusEffect s (.wrCtrl d) t := by
  cases hsrst : d.getLsbD 0 with
  | true =>
    rw [exec_wrCtrl_of_srst s hsrst] at h
    exact Host.Outcome.next.inj h ▸ .reset d hsrst
  | false =>
    rw [exec_wrCtrl_of_not_srst s hsrst] at h
    cases hbusy : s.busy <;> simp only [hbusy, Bool.false_eq_true, if_true, if_false] at h
    · exact Host.Outcome.next.inj h ▸ .configure d hsrst hbusy
    · exact Host.Outcome.next.inj h ▸ .drop rfl

theorem BusEffect.of_wrCmd (w : Word) : BusEffect s (.wrCmd w) (acceptCmd s w) := by
  rcases acceptCmd_cases s w with ⟨-, h⟩ | ⟨hidle, herr, -, h⟩ | ⟨hidle, herr, -, h⟩
  · exact h ▸ .drop rfl
  · exact h ▸ .illegal w hidle herr
  · exact h ▸ .accept w hidle herr

theorem BusEffect.of_popOutput : BusEffect s .rdOutData (popOutput s) := by
  unfold popOutput
  cases hfifo : s.outFifo with
  | nil => exact .port 0 s.draws
  | cons b rest => exact .pop _ hfifo

theorem BusEffect.of_pushInput (d : Word) : BusEffect s (.wrInData d) (pushInput s (byteOfData d)) := by
  unfold pushInput
  split
  · exact .drop rfl
  · next hfull => exact .push d (mt s.inFull_iff.mpr hfull)

/-- A write that is dropped while BUSY = 1 is dropped or has its effect. -/
theorem BusEffect.of_writeWhenIdle {u : State} (hwrite : isRead i = false) (h : s.busy = false → BusEffect s i u) :
    BusEffect s i (writeWhenIdle s u) := by
  unfold writeWhenIdle
  cases hbusy : s.busy with
  | false => exact h hbusy
  | true => exact .drop hwrite

/-- Every bus operation that answers a next state has one of the effects. -/
theorem BusEffect.of_exec (hbus : i.isCommand = false) (h : exec i s = .next t) : BusEffect s i t := by
  by_cases hignored : ignoredWrite i = true
  · rw [exec_of_ignoredWrite hignored] at h
    exact Host.Outcome.next.inj h ▸ .port s.rdata s.draws
  by_cases hfree : busyUnspecified i = true
  · obtain ⟨v, hv⟩ := exec_of_busyUnspecified hfree s
    rw [hv] at h
    exact Host.Outcome.next.inj h ▸ .of_readWhenIdle v
  cases i
  case rdStatus =>
    obtain ⟨u, hu, hframe, -⟩ := exec_rdStatus s
    rw [hu] at h
    rw [← Host.Outcome.next.inj h, hframe]
    exact .port _ _
  case rdId | rdVersion | rdCtrl | rdErrcode | rdErrinfo | rdCmd | rdAck | rdInData | rdInRemain | rdInLevel | rdOutLevel
    | rdCtSel | rdNdSel | rdReservedHigh | rdReservedLow =>
    exact Host.Outcome.next.inj h ▸ .port _ s.draws
  case rdOutData => exact Host.Outcome.next.inj h ▸ .of_popOutput
  case wrCtrl d => exact .of_wrCtrl h
  case wrCmd w => exact Host.Outcome.next.inj h ▸ .of_wrCmd w
  case wrAck d => exact Host.Outcome.next.inj h ▸ .acknowledge d
  case wrInData d => exact Host.Outcome.next.inj h ▸ .of_pushInput d
  case wrInRemain d => exact Host.Outcome.next.inj h ▸ .of_writeWhenIdle rfl (.budget d)
  case wrCtSel d => exact Host.Outcome.next.inj h ▸ .codeSel d
  case wrNdSel d => exact Host.Outcome.next.inj h ▸ .nodeSel d
  case wrFt sym d => exact Host.Outcome.next.inj h ▸ .of_writeWhenIdle rfl (.count sym d)
  all_goals simp [Instr.isCommand, ignoredWrite, busyUnspecified] at hbus hignored hfree

theorem isCommand_of_isRead (h : isRead i = true) : i.isCommand = false := by
  cases i
  case nop | ftClear | build | gen | hdrWrite | hdrParse | encode | decode | flush | illegalCmd => cases h
  all_goals rfl

/-- Settles O32: of the effects of a bus operation, a read other than OUT_DATA's has the one on the port alone. -/
theorem readsHaveNoSideEffect : Obligations.ReadsHaveNoSideEffect := by
  intro i s t hread hne h
  cases BusEffect.of_exec (isCommand_of_isRead hread) h with
  | port v n => rfl
  | pop v hfifo => exact absurd rfl hne
  | drop hwrite => exact absurd hread (by simp [hwrite])
  | _ => cases hread

/-- Settles O19: the three cases of acceptance, with R114's condition on the word's fields. -/
theorem cmdWriteAcceptsOrDrops : Obligations.CmdWriteAcceptsOrDrops := by
  intro s w
  have hfields := (illegalWord_iff w).trans (rsvd_ne_zero_or_opcode_gt_iff w).symm
  rw [exec_wrCmd]
  rcases acceptCmd_cases s w with ⟨hdrop, h⟩ | ⟨hidle, herr, hill, h⟩ | ⟨hidle, herr, hill, h⟩
  · rw [h, if_pos hdrop]
    rfl
  · rw [h, if_neg (by simp [hidle, herr]), if_pos (hfields.mp hill)]
    rfl
  · rw [h, if_neg (by simp [hidle, herr]), if_neg (mt hfields.mpr (by simp [hill]))]

/-- Settles O38: both ways into the error state of an illegal word. -/
theorem illegalWordFails : Obligations.IllegalWordFails := by
  refine ⟨fun s w => rfl, fun s w hidle herr hill => ?_⟩
  rw [cmdWriteAcceptsOrDrops s w, if_neg (by simp [hidle, herr]), if_pos hill]
  rfl

end Sys2Proof.Machine
end

section
/-! The free values of the two resets (`70_reset_and_hazards.md` R340, R341, R344), and the registers after power-up (R342). -/

namespace Sys2Proof.Machine

theorem ftGet_tabulate (f : Nat → Word) (sym : Byte) : ftGet (tabulate 256 f) sym = f sym.toNat := by
  simp [ftGet, tabulate]

theorem rewritesFt_iff (q : Seq) : rewritesFt q = true ↔ decodeCmd q.word = .ftClear ∨ decodeCmd q.word = .hdrParse := by
  rw [← not_iff_not, Bool.not_eq_true, rewritesFt_eq_false_iff, not_or]

/-- A soft reset draws the FT anew exactly where it aborts FT_CLEAR or HDR_PARSE (R344; log 5). -/
theorem softReset_draws (s : State) :
    (softReset s).draws = match s.seq with
      | none => s.draws
      | some q => if rewritesFt q then s.draws + 1 else s.draws := by
  unfold softReset abortCommand
  cases s.seq with
  | none => rfl
  | some q => by_cases h : rewritesFt q <;> simp [h]

theorem le_softReset_draws (s : State) : s.draws ≤ (softReset s).draws := by
  rw [softReset_draws]
  split
  · exact le_rfl
  · split <;> omega

/-- Settles O16: the soft reset's and the hard reset's fields; the hard reset draws the FT after the abort's own draw. -/
theorem resetPinAndAbortsFreeTheTable : Obligations.ResetPinAndAbortsFreeTheTable := by
  refine ⟨fun s d q hsrst hseq hcmd => ?abort, fun s d hsrst => ?soft, fun s rest hagent hinputs => ?pin⟩
  case abort =>
    have hrewrites := (rewritesFt_iff q).mpr hcmd
    refine ⟨_, exec_wrCtrl_of_srst s hsrst, softReset_seq s, ?_, fun sym => ?_⟩
    · change (softReset s).draws = s.draws + 1
      simp only [softReset_draws, hseq, hrewrites, if_true]
    · change ftGet (softReset s).ft sym = _
      simp only [softReset_ft, hseq, hrewrites, if_true, ftGet_tabulate]
  case soft =>
    obtain ⟨-, -, hrdata, hrst, hinputs, hsched⟩ := softReset_frame s
    exact ⟨_, exec_wrCtrl_of_srst s hsrst, hrdata, hrst, hinputs, hsched⟩
  case pin =>
    obtain ⟨hparams, -, hrdata, -, hinputs', -⟩ := softReset_frame { s with inputs := rest, sched := s.sched.tail }
    refine ⟨_, (softReset { s with inputs := rest, sched := s.sched.tail }).draws, step_of_resetPin hagent hinputs, rfl,
      busy_of_seq_none (softReset_seq _), rfl, rfl, rfl, rfl, rfl, rfl, rfl, rfl, rfl, rfl, rfl, rfl, rfl, rfl, rfl, rfl,
      rfl, rfl, rfl, rfl, le_softReset_draws { s with inputs := rest, sched := s.sched.tail }, ?_, ftGet_tabulate _,
      hinputs', hparams, hrdata⟩
    change _ < (softReset _).draws + 1 + 1
    omega

theorem hiHalf_zero (w : Nat) : hiHalf (0 : BitVec w) = 0 := by simp [hiHalf]

theorem codeWord_zero (i : Nat) : codeWord i 0 = 0 := by simp [codeWord]

/-- After power-up both FIFOs are empty, and not full, because their depths are not 0. -/
theorem statusWord_resetWith {p : Params} (hin : 1 ≤ p.ififoDepth) (hout : 1 ≤ p.ofifoDepth) :
    statusWord (State.resetWith p) = 0xA0#32 := by
  have hinFull : (State.resetWith p).inFull = false := decide_eq_false (show ¬ 0 = p.ififoDepth by omega)
  have houtFull : (State.resetWith p).outFull = false := decide_eq_false (show ¬ 0 = p.ofifoDepth by omega)
  rw [statusWord, statusDefined, hinFull, houtFull]
  change bitAt 0 false ||| bitAt 1 false ||| bitAt 2 false ||| bitAt 5 true ||| bitAt 6 false ||| bitAt 7 true |||
    bitAt 8 false ||| bitAt 9 false ||| bitAt 10 false ||| (bitAt 3 false ||| bitAt 4 false) = 0xA0#32
  decide

/-- Settles O14: each register of the list is read in the state after reset. -/
theorem resetReadsAsSpecified : Obligations.ResetReadsAsSpecified := by
  intro p hin hout
  refine ⟨fun i v h => ?_, rfl, rfl⟩
  cases i
  all_goals
    simp only [List.mem_cons, Prod.mk.injEq, reduceCtorEq, false_and, true_and, false_or, or_false, List.not_mem_nil] at h
  case rdStatus => exact ⟨_, rfl, (statusWord_resetWith hin hout).trans h.symm⟩
  case rdCtrl => exact ⟨_, rfl, (show ctrlWord Ctrl.reset = 4#32 by decide).trans h.symm⟩
  case rdSymcntHi | rdTbitsHi | rdDcountHi => exact ⟨_, rfl, (hiHalf_zero _).trans h.symm⟩
  case rdCtCode0 | rdCtCode1 | rdCtCode2 | rdCtCode3 | rdCtCode4 | rdCtCode5 | rdCtCode6 | rdCtCode7 =>
    exact ⟨_, rfl, (codeWord_zero _).trans h.symm⟩
  all_goals exact ⟨_, rfl, h.symm⟩

end Sys2Proof.Machine
end

section
/-! The stream primitives at a position of the running command (`00_scope.md` R15, R16, `44_encoder.md` R262), and runs of
several steps. -/

namespace Sys2Proof.Machine

variable {i : Instr} {s t u : State} {w : Word} {c : BitVec 32} {p p' : Pos} {b : Byte} {next : Byte → Pos}

theorem inByte_of_no_budget (h : s.inRemain = 0) :
    inByte s { word := w, consumed := c, pos := p } next = some (s.failed 0x05 c) := if_pos h

theorem inByte_of_nil (h : s.inRemain ≠ 0) (hfifo : s.inFifo = []) (q : Seq) : inByte s q next = none :=
  inByte_none_iff.mpr ⟨h, hfifo⟩

theorem inByte_of_cons {rest : List Byte} (h : s.inRemain ≠ 0) (hfifo : s.inFifo = b :: rest) :
    inByte s { word := w, consumed := c, pos := p } next = some (s.took rest w c (next b)) := by
  have hrem : ¬ s.inRemain = 0#32 := h
  rw [inByte, if_neg hrem, hfifo]
  rfl

theorem outPush_of_room (h : s.room) : outPush s b = some { s with outFifo := s.outFifo ++ [b] } := if_pos h

theorem outPush_of_full (h : ¬ s.room) : outPush s b = none := if_neg h

/-- A step that is `InByte()` fails on an empty budget, waits on an empty FIFO, or takes the oldest byte (R15). -/
theorem exec_of_inByte (h : exec i s = .next ((inByte s { word := w, consumed := c, pos := p } next).getD s)) :
    (s.inRemain = 0 → exec i s = .next (s.failed 0x05 c)) ∧
      (s.inRemain ≠ 0 → s.inFifo = [] → exec i s = .next s) ∧
      ∀ b rest, s.inRemain ≠ 0 → s.inFifo = b :: rest → exec i s = .next (s.took rest w c (next b)) := by
  refine ⟨fun hrem => ?_, fun hrem hfifo => ?_, fun b rest hrem hfifo => ?_⟩
  · rw [h, inByte_of_no_budget hrem]
    rfl
  · rw [h, inByte_of_nil hrem hfifo]
    rfl
  · rw [h, inByte_of_cons hrem hfifo]
    rfl

/-- A step that is `OutPush(b)` and moves on appends the byte where there is room, and waits where there is none (R16). -/
theorem exec_of_outPush {f : State → State} (h : exec i s = .next (((outPush s b).map f).getD s)) :
    (s.room → exec i s = .next (f { s with outFifo := s.outFifo ++ [b] })) ∧ (¬ s.room → exec i s = .next s) := by
  refine ⟨fun hroom => ?_, fun hfull => ?_⟩
  · rw [h, outPush_of_room hroom]
    rfl
  · rw [h, outPush_of_full hfull]
    rfl

variable {acc : List Bool} {bit : Bool}

theorem appendBit_of_ne (h : acc.length ≠ 7) : appendBit s acc bit = some (s, acc ++ [bit]) :=
  if_neg (by simpa using h)

theorem appendBit_of_eq (h : acc.length = 7) :
    appendBit s acc bit = (outPush s (packByte (acc ++ [bit]))).map fun t => (t, []) :=
  if_pos (by simpa using h)

/-- A step that is `AppendBit(b)` and moves on keeps the bit, or pushes the byte it completes, or waits for room (R262). -/
theorem exec_of_appendBit {f : List Bool → Pos} {q : Seq}
    (h : exec i s = .next (((appendBit s acc bit).map fun (t, acc') => moveTo t q (f acc')).getD s)) :
    (acc.length ≠ 7 → exec i s = .next (moveTo s q (f (acc ++ [bit])))) ∧
      (acc.length = 7 → ¬ s.room → exec i s = .next s) ∧
      (acc.length = 7 → s.room → exec i s =
        .next (moveTo { s with outFifo := s.outFifo ++ [packByte (acc ++ [bit])] } q (f []))) := by
  refine ⟨fun hlen => ?_, fun hlen hfull => ?_, fun hlen hroom => ?_⟩
  · rw [h, appendBit_of_ne hlen]
    rfl
  · rw [h, appendBit_of_eq hlen, outPush_of_full hfull]
    rfl
  · rw [h, appendBit_of_eq hlen, outPush_of_room hroom]
    rfl

theorem execN_succ (n : Nat) (h : exec i s = .next t) : execN i (n + 1) s = execN i n t := by
  rw [execN, h]

theorem execN_one (h : exec i s = .next t) : execN i 1 s = .next t := execN_succ 0 h

/-- Some number of steps of the command leads from `s` to `t`. -/
def Runs (i : Instr) (s t : State) : Prop := ∃ n, execN i n s = .next t

theorem Runs.refl (i : Instr) (s : State) : Runs i s s := ⟨0, rfl⟩

theorem Runs.head (h : exec i s = .next t) (ht : Runs i t u) : Runs i s u := by
  obtain ⟨n, hn⟩ := ht
  exact ⟨n + 1, (execN_succ n h).trans hn⟩

theorem Runs.single (h : exec i s = .next t) : Runs i s t := ⟨1, execN_one h⟩

theorem Runs.trans (h : Runs i s t) (ht : Runs i t u) : Runs i s u := by
  obtain ⟨n, hn⟩ := h
  induction n generalizing s with
  | zero => exact Host.Outcome.next.inj hn ▸ ht
  | succ n ih =>
    obtain ⟨v, hv⟩ := everyInstructionAnswersANextState i s
    exact .head hv (ih ((execN_succ n hv).symm.trans hn))

end Sys2Proof.Machine
end

section
/-! FLUSH and GEN (`41_control_commands.md` R197, `43_code_table.md` R230 to R238). -/

namespace Sys2Proof.Machine

variable {s : State} {w : Word} {c : BitVec 32}

theorem exec_flush_of_start (h : s.seq = some { word := w, consumed := c, pos := .start }) :
    exec .flush s = .next { s.movedTo 0x08 0 .flushOut with inFifo := [] } := by
  simp only [exec, execFlush, flushStep, h]
  rfl

theorem exec_flush_of_flushOut (h : s.seq = some { word := w, consumed := c, pos := .flushOut }) :
    exec .flush s = .next { s.movedTo w c .flushDone with outFifo := [] } := by
  simp only [exec, execFlush, flushStep, h]
  rfl

theorem exec_flush_of_flushDone (h : s.seq = some { word := w, consumed := c, pos := .flushDone }) :
    exec .flush s = .next s.ended := by
  simp only [exec, execFlush, flushStep, h]
  rfl

/-- Settles O37: the equations of FLUSH's three positions, one after the other. -/
theorem flushEmptiesBothFifos : Obligations.FlushEmptiesBothFifos := by
  refine ⟨fun s h => ⟨exec_flush_of_start h, ?_⟩, fun s c h => exec_flush_of_flushOut h,
    fun s c h => exec_flush_of_flushDone h⟩
  rw [execN_succ _ (exec_flush_of_start h), execN_succ _ (exec_flush_of_flushOut rfl),
    execN_one (exec_flush_of_flushDone rfl)]
  rfl

/-- Settles O44: the branch of GEN without a tree. -/
theorem genNeedsAValidTree : Obligations.GenNeedsAValidTree := fun _ h =>
  congrArg Host.Outcome.next (if_neg (Bool.eq_false_iff.mp h))

/-- A running maximum bounds its start and every value it has passed, and is one of them. -/
theorem foldl_max_spec {α : Type} (f : α → Nat) (l : List α) (m : Nat) :
    (m ≤ l.foldl (fun m a => max m (f a)) m ∧ ∀ a ∈ l, f a ≤ l.foldl (fun m a => max m (f a)) m) ∧
      (l.foldl (fun m a => max m (f a)) m = m ∨ ∃ a ∈ l, f a = l.foldl (fun m a => max m (f a)) m) := by
  induction l generalizing m with
  | nil => simp
  | cons a l ih =>
    obtain ⟨⟨hstart, hrest⟩, hattained⟩ := ih (max m (f a))
    refine ⟨⟨(le_max_left _ _).trans hstart, List.forall_mem_cons.mpr ⟨(le_max_right _ _).trans hstart, hrest⟩⟩, ?_⟩
    rcases hattained with heq | ⟨b, hb, heq⟩
    · rcases max_choice m (f a) with hm | hm
      · exact .inl (heq.trans hm)
      · exact .inr ⟨a, List.mem_cons_self, hm.symm.trans heq.symm⟩
    · exact .inr ⟨b, List.mem_cons_of_mem _ hb, heq⟩

theorem codeAt_mem_toList (ct : Vector CodeEntry 256) (sym : Byte) : codeAt ct sym ∈ ct.toList := by
  simp [codeAt]

theorem exists_codeAt_of_mem {ct : Vector CodeEntry 256} {e : CodeEntry} (h : e ∈ ct.toList) : ∃ sym, codeAt ct sym = e := by
  obtain ⟨k, hk, rfl⟩ := List.mem_iff_getElem.mp h
  have hk' : k < 256 := by simpa using hk
  exact ⟨BitVec.ofNat 8 k, by simp [codeAt, Nat.mod_eq_of_lt hk']⟩

/-- MAXLEN is the largest CL of the table (R232). -/
theorem maxLength_spec (ct : Vector CodeEntry 256) :
    (∀ sym, (codeAt ct sym).len.toNat ≤ (maxLength ct).toNat) ∧ ∃ sym, (codeAt ct sym).len = maxLength ct := by
  obtain ⟨⟨-, hbound⟩, hattained⟩ := foldl_max_spec (fun e : CodeEntry => e.len.toNat) ct.toList 0
  have hle (sym : Byte) := hbound _ (codeAt_mem_toList ct sym)
  obtain ⟨sym, hsym⟩ : ∃ sym, (codeAt ct sym).len.toNat = ct.toList.foldl (fun m e => max m e.len.toNat) 0 := by
    rcases hattained with hzero | ⟨e, he, hmax⟩
    · exact ⟨0, le_antisymm (hle 0) (hzero.trans_le (Nat.zero_le _))⟩
    · obtain ⟨sym, rfl⟩ := exists_codeAt_of_mem he
      exact ⟨sym, hmax⟩
  have hmax : (codeAt ct sym).len = maxLength ct := by
    rw [maxLength, ← hsym, BitVec.ofNat_toNat, BitVec.setWidth_eq]
  exact ⟨fun a => hmax ▸ hsym ▸ hle a, sym, hmax⟩

theorem codesOf_of_leaf {arena : Vector Node 511} {root : NodeIx} (h : (nodeAt arena root).leaf = true) :
    codesOf arena root = codeSet emptyCodes (nodeAt arena root).sym { len := 1, code := 0 } := if_pos h

/-- Settles O45: GEN's end is `genCodes`, whose TBITS is a sum, whose MAXLEN a largest element, and whose table of a single
leaf has one entry. -/
theorem genWritesTheCodeTable : Obligations.GenWritesTheCodeTable := by
  intro s h
  obtain ⟨hbound, hattained⟩ := maxLength_spec (codesOf s.arena s.root)
  refine ⟨_, exec_gen_of_valid h, rfl, rfl, hbound, hattained, fun hleaf => ?_⟩
  have hct : (genCodes s).ended.ct = codeSet emptyCodes (nodeAt s.arena s.root).sym { len := 1, code := 0 } :=
    codesOf_of_leaf hleaf
  rw [hct]
  exact ⟨codeAt_codeSet_same .., fun sym hsym => by rw [codeAt_codeSet_other _ _ hsym.symm, codeAt_emptyCodes]⟩

end Sys2Proof.Machine
end

section
/-! HDR_WRITE (`44_encoder.md` R251, R252): its positions, and the run that pushes a whole header. -/

namespace Sys2Proof.Machine

variable {s : State} {w : Word} {c : BitVec 32}

theorem exec_hdrWrite_of_start (h : s.seq = some { word := w, consumed := c, pos := .start }) :
    exec .hdrWrite s = .next (hdrWriteStart s) := by
  simp only [exec, execHdrWrite, hdrWriteStep, h, Option.getD_some]

theorem hdrWriteStart_of_present {sym : Byte} (h : ftGet s.ft sym ≠ 0) :
    hdrWriteStart s = s.movedTo 0x04 0 (.hdrWrite (headerBytes s.ft)) :=
  if_neg (Nat.one_le_iff_ne_zero.mp (presentCount_pos h))

theorem exec_hdrWrite_of_cons {b : Byte} {rest : List Byte}
    (h : s.seq = some { word := w, consumed := c, pos := .hdrWrite (b :: rest) }) :
    exec .hdrWrite s = .next (((outPush s b).map fun t => t.movedTo w c (.hdrWrite rest)).getD s) := by
  simp only [exec, execHdrWrite, hdrWriteStep, h]
  rfl

theorem exec_hdrWrite_of_nil (h : s.seq = some { word := w, consumed := c, pos := .hdrWrite [] }) :
    exec .hdrWrite s = .next s.ended := by
  simp only [exec, execHdrWrite, hdrWriteStep, h]
  rfl

/-- Settles O48: the equations of the start, of a byte to push, and of the end. -/
theorem hdrWriteSteps : Obligations.HdrWriteSteps := by
  refine ⟨fun s hacc hempty => ?empty, fun s sym hacc hsym => ?start,
    fun s c b rest h => exec_of_outPush (exec_hdrWrite_of_cons h), fun s c h => exec_hdrWrite_of_nil h⟩
  case empty =>
    rw [exec_hdrWrite_of_start hacc, hdrWriteStart, if_pos (presentCount_eq_zero hempty)]
    rfl
  case start => rw [exec_hdrWrite_of_start hacc, hdrWriteStart_of_present hsym]

/-- With room for them all, the bytes are pushed one a step, and one more step ends the command. -/
theorem execN_hdrWrite_bytes {bytes : List Byte}
    (h : s.seq = some { word := w, consumed := c, pos := .hdrWrite bytes })
    (hroom : s.outFifo.length + bytes.length ≤ s.params.ofifoDepth) :
    execN .hdrWrite (bytes.length + 1) s = .next (State.ended { s with outFifo := s.outFifo ++ bytes }) := by
  induction bytes generalizing s with
  | nil =>
    rw [List.append_nil]
    exact execN_one (exec_hdrWrite_of_nil h)
  | cons b rest ih =>
    have hroom' : s.room := by
      rw [List.length_cons] at hroom
      unfold State.room
      omega
    rw [List.length_cons, execN_succ _ ((exec_of_outPush (exec_hdrWrite_of_cons h)).1 hroom'), ih rfl]
    · simp only [State.movedTo, List.append_assoc, List.singleton_append]
      rfl
    · simp only [State.movedTo, List.length_append, List.length_singleton]
      simp only [List.length_cons] at hroom
      omega

/-- A 16-bit count's bytes are its quotient and remainder by 256 (`20_memory.md` R83). -/
theorem be16_ofNat (n : Nat) : be16 (BitVec.ofNat 16 n) = [BitVec.ofNat 8 (n / 256), BitVec.ofNat 8 n] := by
  have hhigh : (BitVec.ofNat 16 n).extractLsb' 8 8 = BitVec.ofNat 8 (n / 256) := by
    apply BitVec.eq_of_toNat_eq
    simp only [BitVec.extractLsb'_toNat, BitVec.toNat_ofNat, Nat.shiftRight_eq_div_pow]
    omega
  have hlow : (BitVec.ofNat 16 n).extractLsb' 0 8 = BitVec.ofNat 8 n := by
    apply BitVec.eq_of_toNat_eq
    simp only [BitVec.extractLsb'_toNat, BitVec.toNat_ofNat, Nat.shiftRight_eq_div_pow]
    omega
  rw [be16, hhigh, hlow]

/-- The header, written out over the present symbols in ascending order (R251, R252). -/
theorem headerBytes_eq (ft : Vector Word 256) :
    headerBytes ft =
      [BitVec.ofNat 8 ((presentBelow ft 256).length / 256), BitVec.ofNat 8 (presentBelow ft 256).length] ++
        (presentBelow ft 256).flatMap fun k => headerRecord (entryOf ft k) := by
  rw [headerBytes, presentCount_eq_length, be16_ofNat, presentEntries_eq_map, List.flatMap_map]

theorem flatMap_headerRecord_length (entries : List (Byte × Word)) :
    (entries.flatMap headerRecord).length = 5 * entries.length := by
  induction entries with
  | nil => rfl
  | cons e entries ih =>
    rw [List.flatMap_cons, List.length_append, ih, List.length_cons]
    change 5 + _ = _
    omega

theorem headerBytes_length (ft : Vector Word 256) : (headerBytes ft).length = 2 + 5 * presentCount ft := by
  rw [headerBytes, List.length_append, flatMap_headerRecord_length]
  rfl

/-- Settles O49: the header written out is the one HDR_WRITE starts on, and its bytes all find room. -/
theorem hdrWriteSendsTheWholeHeader : Obligations.HdrWriteSendsTheWholeHeader := by
  intro s sym hacc hsym present header
  have hheader : header = headerBytes s.ft := (headerBytes_eq s.ft).symm
  rw [hheader]
  refine ⟨(headerBytes_length s.ft).trans (by rw [presentCount_eq_length]; rfl), fun hroom => ?_⟩
  have hstart := hdrWriteStart_of_present hsym ▸ exec_hdrWrite_of_start hacc
  rw [execN_succ _ hstart]
  exact execN_hdrWrite_bytes rfl hroom

end Sys2Proof.Machine
end

section
/-! HDR_PARSE (`45_decoder.md` R281, R282): its positions, one equation for all those that take a byte. -/

namespace Sys2Proof.Machine

/-- A count grows by a byte at its low end (R281). -/
theorem be32Step_eq (v : Word) (b : Byte) : be32Step v b = BitVec.ofNat 32 (256 * v.toNat + b.toNat) := by
  have hb : b.toNat < 2 ^ 8 := b.isLt
  have hshift : v.toNat <<< 8 % 2 ^ 32 = (v.toNat % 2 ^ 24) <<< 8 := by
    simp only [Nat.shiftLeft_eq]
    omega
  apply BitVec.eq_of_toNat_eq
  rw [be32Step, zext32, BitVec.toNat_or, BitVec.toNat_shiftLeft, hshift, BitVec.toNat_setWidth_of_le (by decide),
    ← Nat.shiftLeft_add_eq_or_of_lt hb, Nat.shiftLeft_eq, BitVec.toNat_ofNat]
  omega

theorem be16Of_eq (hi lo : Byte) : be16Of hi lo = BitVec.ofNat 16 (256 * hi.toNat + lo.toNat) := by
  have hlo : lo.toNat < 2 ^ 8 := lo.isLt
  apply BitVec.eq_of_toNat_eq
  rw [be16Of, BitVec.toNat_append, ← Nat.shiftLeft_add_eq_or_of_lt hlo, Nat.shiftLeft_eq, BitVec.toNat_ofNat]
  omega

/-- Where HDR_PARSE goes with the byte it takes; `none` at the positions that take none. -/
def parseNext (p : Pos) : Option (Byte → Pos) :=
  match p with
  | .parseHigh => some .parseLow
  | .parseLow hi => some fun b => .parseCheckN (BitVec.ofNat 16 (256 * hi.toNat + b.toNat))
  | .parseSymbol (k + 1) => some fun b => .parseCount (k + 1) b 0 0
  | .parseCount left sym got v => some fun b =>
    if got + 1 < 4 then .parseCount left sym (got + 1) (BitVec.ofNat 32 (256 * v.toNat + b.toNat))
    else .parseCheckRecord left sym (BitVec.ofNat 32 (256 * v.toNat + b.toNat))
  | _ => none

variable {s : State} {w : Word} {c : BitVec 32} {p : Pos}

theorem exec_hdrParse_of_parseNext {next : Byte → Pos} (hnext : parseNext p = some next)
    (h : s.seq = some { word := w, consumed := c, pos := p }) :
    exec .hdrParse s = .next ((inByte s { word := w, consumed := c, pos := p } next).getD s) := by
  unfold parseNext at hnext
  split at hnext
  case h_5 => cases hnext
  all_goals
    obtain rfl := Option.some.inj hnext
    simp only [exec, execHdrParse, hdrParseStep, h, parseCountStep, be32Step_eq, be16Of_eq]
  all_goals rfl

theorem exec_hdrParse_of_start (h : s.seq = some { word := w, consumed := c, pos := .start }) :
    exec .hdrParse s = .next { s.movedTo 0x05 0 .parseHigh with
      ft := Vector.replicate 256 0#32, treeValid := false, ctValid := false } := by
  simp only [exec, execHdrParse, hdrParseStep, h]
  rfl

theorem exec_hdrParse_of_parseCheckN {n : BitVec 16}
    (h : s.seq = some { word := w, consumed := c, pos := .parseCheckN n }) :
    exec .hdrParse s = .next (if n.toNat = 0 ∨ 256 < n.toNat then s.failed 0x06 (n.setWidth 32)
      else s.movedTo w c (.parseSymbol n.toNat)) := by
  simp only [exec, execHdrParse, hdrParseStep, h]
  rfl

theorem exec_hdrParse_of_parseCheckRecord {left : Nat} {sym : Byte} {v : Word}
    (h : s.seq = some { word := w, consumed := c, pos := .parseCheckRecord left sym v }) :
    exec .hdrParse s = .next (if ftGet s.ft sym ≠ 0 then s.failed 0x07 (sym.setWidth 32)
      else if v = 0 then s.failed 0x08 (sym.setWidth 32)
      else { s.movedTo w c (.parseSymbol (left - 1)) with ft := ftSet s.ft sym v }) := by
  simp only [exec, execHdrParse, hdrParseStep, h]
  rfl

theorem exec_hdrParse_of_new_record {left : Nat} {sym : Byte} {v : Word}
    (h : s.seq = some { word := w, consumed := c, pos := .parseCheckRecord left sym v }) (hnew : ftGet s.ft sym = 0)
    (hcount : v ≠ 0) :
    exec .hdrParse s = .next { s.movedTo w c (.parseSymbol (left - 1)) with ft := ftSet s.ft sym v } := by
  rw [exec_hdrParse_of_parseCheckRecord h, if_neg (not_not.mpr hnew), if_neg hcount]

theorem exec_hdrParse_of_parseSymbol_zero (h : s.seq = some { word := w, consumed := c, pos := .parseSymbol 0 }) :
    exec .hdrParse s = .next s.ended := by
  simp only [exec, execHdrParse, hdrParseStep, h]
  rfl

/-- Settles O50: each position that takes a byte goes on as `parseNext` says; the start, the two checks and the end have
equations of their own. -/
theorem hdrParseSteps : Obligations.HdrParseSteps := by
  refine ⟨fun s h => ⟨_, exec_hdrParse_of_start h, rfl, ftGet_clear⟩, fun s c p next h hpos => ?byte,
    fun s c n h => exec_hdrParse_of_parseCheckN h, fun s c left sym v h => ?record,
    fun s c h => exec_hdrParse_of_parseSymbol_zero h⟩
  case byte =>
    have hnext : parseNext p = some next := by
      rcases hpos with ⟨rfl, hn⟩ | ⟨hi, rfl, hn⟩ | ⟨k, rfl, hn⟩ | ⟨left, sym, got, v, rfl, hgot, hn⟩ |
        ⟨left, sym, v, rfl, hn⟩
      all_goals obtain rfl := funext hn
      case inr.inr.inr.inl =>
        have hmore : got + 1 < 4 := by omega
        simp only [parseNext, hmore, if_true]
      all_goals rfl
    exact exec_of_inByte (exec_hdrParse_of_parseNext hnext h)
  case record =>
    refine ⟨fun hdup => ?_, fun hnew hzero => ?_,
      fun hnew hcount => ⟨_, exec_hdrParse_of_new_record h hnew hcount, rfl, ftGet_ftSet_same .., ?_⟩⟩
    · rw [exec_hdrParse_of_parseCheckRecord h, if_pos hdup]
    · rw [exec_hdrParse_of_parseCheckRecord h, if_neg (not_not.mpr hnew), if_pos hzero]
    · exact fun other hne => ftGet_ftSet_other s.ft v hne.symm

end Sys2Proof.Machine
end

section
/-! HDR_PARSE of a header that HDR_WRITE sends (`44_encoder.md` R254): the records set the entries of the table one by one. -/

namespace Sys2Proof.Machine

/-- A running HDR_PARSE that has come from `s`: the table so far, the input left, the budget left, and where it stands. -/
def parseState (s : State) (ft : Vector Word 256) (input : List Byte) (budget : Nat) (c : BitVec 32) (p : Pos) : State :=
  { s with
    ft := ft, treeValid := false, ctValid := false, inFifo := input, inRemain := BitVec.ofNat 32 budget
    seq := some { word := 0x05, consumed := c, pos := p } }

/-- HDR_PARSE from `s` at its end. -/
def parseEnd (s : State) (ft : Vector Word 256) (input : List Byte) (budget : Nat) : State :=
  State.ended { s with
    ft := ft, treeValid := false, ctValid := false, inFifo := input, inRemain := BitVec.ofNat 32 budget }

theorem ofNat_succ_sub_one (n : Nat) : BitVec.ofNat 32 (n + 1) - 1 = BitVec.ofNat 32 n := by
  rw [BitVec.ofNat_add]
  exact BitVec.add_sub_cancel _ _

theorem ofNat_succ_ne_zero {n : Nat} (h : n + 1 < 2 ^ 32) : BitVec.ofNat 32 (n + 1) ≠ 0 := fun h0 => by
  have := congrArg BitVec.toNat h0
  rw [BitVec.toNat_ofNat, Nat.mod_eq_of_lt h] at this
  exact absurd this (Nat.succ_ne_zero n)

variable {s : State} {ft : Vector Word 256} {rest : List Byte} {budget : Nat} {c : BitVec 32}

theorem exec_parseState {p : Pos} {b : Byte} {next : Byte → Pos} (hnext : parseNext p = some next)
    (hbudget : budget + 1 < 2 ^ 32) :
    exec .hdrParse (parseState s ft (b :: rest) (budget + 1) c p) =
      .next (parseState s ft rest budget (c + 1) (next b)) := by
  refine ((exec_of_inByte (exec_hdrParse_of_parseNext hnext rfl)).2.2 b rest (ofNat_succ_ne_zero hbudget) rfl).trans ?_
  simp only [parseState, State.took, ofNat_succ_sub_one]

/-- The four bytes of a count, taken in their order, give the count back (R281, `20_memory.md` R83). -/
theorem count_of_be32 (v : Word) :
    BitVec.ofNat 32 (256 * (BitVec.ofNat 32 (256 * (BitVec.ofNat 32 (256 * (BitVec.ofNat 32
      (256 * (0 : Word).toNat + (v.extractLsb' 24 8).toNat)).toNat + (v.extractLsb' 16 8).toNat)).toNat +
      (v.extractLsb' 8 8).toNat)).toNat + (v.extractLsb' 0 8).toNat) = v := by
  apply BitVec.eq_of_toNat_eq
  simp only [BitVec.extractLsb'_toNat, BitVec.toNat_ofNat, Nat.shiftRight_eq_div_pow]
  omega

/-- A record with a new symbol and a count sets its entry. -/
theorem runs_record {e : Byte × Word} {k : Nat} (hnew : ftGet ft e.1 = 0) (hcount : e.2 ≠ 0)
    (hbudget : budget + 5 < 2 ^ 32) :
    ∃ c', Runs .hdrParse (parseState s ft (headerRecord e ++ rest) (budget + 5) c (.parseSymbol (k + 1)))
      (parseState s (ftSet ft e.1 e.2) rest budget c' (.parseSymbol k)) := by
  obtain ⟨sym, v⟩ := e
  have hstep (p : Pos) (next : Byte → Pos) (b : Byte) (input : List Byte) (n : Nat) (d : BitVec 32)
      (hnext : parseNext p = some next) (hn : n + 1 < 2 ^ 32) :=
    exec_parseState (s := s) (ft := ft) (rest := input) (b := b) (c := d) hnext hn
  refine ⟨c + 1 + 1 + 1 + 1 + 1, .head (hstep _ _ _ _ (budget + 4) _ rfl hbudget)
    (.head (hstep _ _ _ _ (budget + 3) _ rfl (by omega)) (.head (hstep _ _ _ _ (budget + 2) _ rfl (by omega))
      (.head (hstep _ _ _ _ (budget + 1) _ rfl (by omega)) (.head (hstep _ _ _ _ budget _ rfl (by omega))
        (.single ?_)))))⟩
  change exec .hdrParse (parseState s ft rest budget _ (.parseCheckRecord (k + 1) sym _)) = _
  rw [count_of_be32]
  exact exec_hdrParse_of_new_record (s := parseState s ft rest budget _ _) rfl hnew hcount

/-- Entry by entry, the records of new symbols with counts are written into the table, and the command ends. -/
theorem runs_records {entries : List (Byte × Word)} (hnodup : (entries.map Prod.fst).Nodup)
    (hentries : ∀ e ∈ entries, ftGet ft e.1 = 0 ∧ e.2 ≠ 0) (hbudget : budget + 5 * entries.length < 2 ^ 32) :
    Runs .hdrParse
      (parseState s ft (entries.flatMap headerRecord ++ rest) (budget + 5 * entries.length) c (.parseSymbol entries.length))
      (parseEnd s (entries.foldl (fun ft e => ftSet ft e.1 e.2) ft) rest budget) := by
  induction entries generalizing ft c with
  | nil => exact .single (exec_hdrParse_of_parseSymbol_zero rfl)
  | cons e entries ih =>
    obtain ⟨⟨hnew, hcount⟩, hrest⟩ := List.forall_mem_cons.mp hentries
    obtain ⟨hfresh, hnodup⟩ := List.nodup_cons.mp hnodup
    rw [List.length_cons] at hbudget
    have hbytes : (e :: entries).flatMap headerRecord ++ rest =
        headerRecord e ++ (entries.flatMap headerRecord ++ rest) := by
      rw [List.flatMap_cons, List.append_assoc]
    obtain ⟨c', hrecord⟩ := runs_record (s := s) (c := c) (rest := entries.flatMap headerRecord ++ rest)
      (budget := budget + 5 * entries.length) (k := entries.length) hnew hcount (by omega)
    rw [hbytes]
    refine hrecord.trans (ih hnodup (fun a ha => ⟨?_, (hrest a ha).2⟩) (by omega))
    have hne : e.1 ≠ a.1 := fun heq => hfresh (heq ▸ List.mem_map_of_mem ha)
    rw [ftGet_ftSet_other ft _ hne]
    exact (hrest a ha).1

theorem ft_ext {a b : Vector Word 256} (h : ∀ sym, ftGet a sym = ftGet b sym) : a = b := by
  refine Vector.ext fun k hk => ?_
  have hk' := h (BitVec.ofNat 8 k)
  simpa [ftGet, Nat.mod_eq_of_lt hk] using hk'

theorem map_fst_presentEntries (ft : Vector Word 256) :
    (presentEntries ft).map Prod.fst = (presentBelow ft 256).map (BitVec.ofNat 8) := by
  rw [presentEntries_eq_map, List.map_map]
  rfl

theorem nodup_map_fst_presentEntries (ft : Vector Word 256) : ((presentEntries ft).map Prod.fst).Nodup := by
  rw [map_fst_presentEntries]
  refine (List.nodup_range.filter _).map_on fun a ha b hb hab => ?_
  have ha' : a < 256 := List.mem_range.mp (List.mem_filter.mp ha).1
  have hb' : b < 256 := List.mem_range.mp (List.mem_filter.mp hb).1
  have := congrArg BitVec.toNat hab
  simp only [BitVec.toNat_ofNat] at this
  omega

/-- Writing a table's present entries into the empty table gives the table. -/
theorem foldl_ftSet_presentEntries (ft : Vector Word 256) :
    (presentEntries ft).foldl (fun ft e => ftSet ft e.1 e.2) (Vector.replicate 256 0#32) = ft := by
  have hwritten (entries : List (Byte × Word)) (start : Vector Word 256) (sym : Byte)
      (hentries : ∀ e ∈ entries, e.2 = ftGet ft e.1)
      (hstart : ftGet start sym = ftGet ft sym ∨ ∃ e ∈ entries, e.1 = sym) :
      ftGet (entries.foldl (fun ft e => ftSet ft e.1 e.2) start) sym = ftGet ft sym := by
    induction entries generalizing start with
    | nil => simpa using hstart
    | cons e entries ih =>
      obtain ⟨he, hrest⟩ := List.forall_mem_cons.mp hentries
      refine ih (ftSet start e.1 e.2) hrest ?_
      by_cases hsym : e.1 = sym
      · exact .inl (by rw [← hsym, ftGet_ftSet_same, he])
      · rw [ftGet_ftSet_other _ _ hsym]
        simpa [hsym] using hstart
  refine ft_ext fun sym => hwritten _ _ sym (fun e he => (eq_ftGet_of_mem_presentEntries he).1) ?_
  by_cases hsym : ftGet ft sym = 0
  · exact .inl ((ftGet_clear sym).trans hsym.symm)
  · exact .inr ⟨_, List.mem_of_getElem? (presentEntries_getElem? hsym), rfl⟩

/-- The two bytes of N and its check lead to the first record. -/
theorem runs_count {n : Nat} (hpos : 1 ≤ n) (hle : n ≤ 256) (hbudget : budget + 2 < 2 ^ 32) :
    ∃ c', Runs .hdrParse (parseState s ft (be16 (BitVec.ofNat 16 n) ++ rest) (budget + 2) c .parseHigh)
      (parseState s ft rest budget c' (.parseSymbol n)) := by
  have hcount : BitVec.ofNat 16 (256 * (BitVec.ofNat 8 (n / 256)).toNat + (BitVec.ofNat 8 n).toNat) = BitVec.ofNat 16 n := by
    apply BitVec.eq_of_toNat_eq
    simp only [BitVec.toNat_ofNat]
    omega
  have hn : (BitVec.ofNat 16 n).toNat = n := by
    rw [BitVec.toNat_ofNat]
    omega
  rw [be16_ofNat]
  refine ⟨c + 1 + 1, .head (exec_parseState (p := .parseHigh) (budget := budget + 1) rfl hbudget)
    (.head (exec_parseState (p := .parseLow _) rfl (by omega)) (.single ?_))⟩
  rw [hcount, exec_hdrParse_of_parseCheckN rfl, hn, if_neg (by omega)]
  rfl

/-- Settles O51: the start, the two bytes of N and its check, and the records. -/
theorem hdrParseRestoresTheTable : Obligations.HdrParseRestoresTheTable := by
  intro s ft sym rest hacc hsym hfifo hbudget
  obtain ⟨budget, hrem⟩ := Nat.exists_eq_add_of_le' hbudget
  have hlt := s.inRemain.isLt
  have hlen : (headerBytes ft).length = 5 * (presentEntries ft).length + 2 := by
    rw [headerBytes_length, Nat.add_comm]
    rfl
  have hbudget' : budget + 5 * (presentEntries ft).length + 2 = s.inRemain.toNat := by omega
  have hinRemain : BitVec.ofNat 32 s.inRemain.toNat = s.inRemain := by rw [BitVec.ofNat_toNat, BitVec.setWidth_eq]
  have hstart : exec .hdrParse s = .next (parseState s (Vector.replicate 256 0#32)
      (be16 (BitVec.ofNat 16 (presentCount ft)) ++ ((presentEntries ft).flatMap headerRecord ++ rest))
      (budget + 5 * (presentEntries ft).length + 2) 0 .parseHigh) := by
    rw [exec_hdrParse_of_start hacc, parseState, hbudget', hinRemain, ← List.append_assoc, ← headerBytes, ← hfifo]
    rfl
  have hend : BitVec.ofNat 32 budget = s.inRemain - BitVec.ofNat 32 (headerBytes ft).length := by
    rw [← hinRemain, hrem, BitVec.ofNat_add]
    exact (BitVec.add_sub_cancel _ _).symm
  obtain ⟨c, hcount⟩ := runs_count (s := s) (ft := Vector.replicate 256 0#32) (c := 0)
    (rest := (presentEntries ft).flatMap headerRecord ++ rest) (budget := budget + 5 * (presentEntries ft).length)
    (presentCount_pos hsym) (presentCount_le ft) (by omega)
  have hrecords := runs_records (s := s) (ft := Vector.replicate 256 0#32) (rest := rest) (budget := budget) (c := c)
    (nodup_map_fst_presentEntries ft)
    (fun e he => ⟨ftGet_clear e.1, have hentry := eq_ftGet_of_mem_presentEntries he; hentry.1 ▸ hentry.2⟩) (by omega)
  rw [foldl_ftSet_presentEntries, parseEnd, hend] at hrecords
  exact (hcount.trans hrecords).head hstart

end Sys2Proof.Machine
end

section
/-! ENCODE (`44_encoder.md` R259 to R266): its start and its positions. -/

namespace Sys2Proof.Machine

/-- The padding count completes the last byte; PADMODE = 1 never leaves it 0 (R261). -/
theorem padCount_spec (padmode : Bool) (n : Nat) :
    (n + padCount padmode (n % 8)) % 8 = 0 ∧
      (padmode = false → padCount padmode (n % 8) ≤ 7) ∧
      (padmode = true → 1 ≤ padCount padmode (n % 8) ∧ padCount padmode (n % 8) ≤ 8) := by
  cases padmode
  · simp only [padCount, Bool.false_eq_true, if_false, false_implies, true_implies, and_true]
    omega
  · simp only [padCount, if_true, reduceCtorEq, false_implies, true_implies, true_and]
    omega

theorem padCount_le (padmode : Bool) (n : Nat) : padCount padmode (n % 8) ≤ 8 := by
  obtain ⟨-, hfalse, htrue⟩ := padCount_spec padmode n
  cases padmode
  · exact (hfalse rfl).trans (by decide)
  · exact (htrue rfl).2

theorem ofNat_padCount_toNat (padmode : Bool) (n : Nat) :
    (BitVec.ofNat 8 (padCount padmode (n % 8))).toNat = padCount padmode (n % 8) := by
  have := padCount_le padmode n
  rw [BitVec.toNat_ofNat, Nat.mod_eq_of_lt (by omega)]

/-- The locals ENCODE starts with: the padding count, all symbols still to take, no bit yet. -/
def encStartLocals (s : State) : EncLocals :=
  { p := BitVec.ofNat 8 (padCount s.ctrl.padmode (s.tbits.toNat % 8)), left := s.inRemain.toNat, acc := [], nbits := 0 }

variable {s : State} {w : Word} {c : BitVec 32} {l : EncLocals} {sym : Byte}

theorem exec_encode_of_start (h : s.seq = some { word := w, consumed := c, pos := .start }) :
    exec .encode s = .next (encodeStart s) := by
  simp only [exec, execEncode, encodeStep, h, Option.getD_some]

theorem encodeStart_of_no_table (h : s.ctValid = false) : encodeStart s = s.failed 0x04 0 := if_pos (by simp [h])

theorem encodeStart_of_wrong_length (h : s.ctValid = true) (hlen : s.inRemain.setWidth 40 ≠ s.symcnt) :
    encodeStart s = s.failed 0x09 s.inRemain := by
  rw [encodeStart, if_neg (by simp [h]), if_pos hlen]
  rfl

theorem encodeStart_of_length (h : s.ctValid = true) (hlen : s.inRemain.setWidth 40 = s.symcnt) :
    encodeStart s =
      { s.movedTo 0x06 0 (.encHeader (encStartLocals s)) with pad := (encStartLocals s).p, dcount := 0 } := by
  rw [encodeStart, if_neg (by simp [h]), if_neg (not_not.mpr hlen)]
  rfl

/-- Settles O52: the three ends of the checks; the padding count is the start's. -/
theorem encodeChecksThenComputesPadding : Obligations.EncodeChecksThenComputesPadding := by
  intro s hacc
  rw [exec_encode_of_start hacc]
  refine ⟨fun h => by rw [encodeStart_of_no_table h], fun h hlen => by rw [encodeStart_of_wrong_length h hlen],
    fun h hlen => ⟨_, encStartLocals s, by rw [encodeStart_of_length h hlen], rfl, rfl, rfl, rfl, rfl, ?_⟩⟩
  have hpad : (encStartLocals s).p.toNat = padCount s.ctrl.padmode (s.tbits.toNat % 8) := ofNat_padCount_toNat ..
  change (s.tbits.toNat + (encStartLocals s).p.toNat) % 8 = 0 ∧ (_ → (encStartLocals s).p.toNat ≤ 7) ∧
    (_ → 1 ≤ (encStartLocals s).p.toNat ∧ (encStartLocals s).p.toNat ≤ 8)
  rw [hpad]
  exact padCount_spec s.ctrl.padmode s.tbits.toNat

theorem exec_encode_of_encHeader (h : s.seq = some { word := w, consumed := c, pos := .encHeader l }) :
    exec .encode s = .next (((outPush s l.p).map fun t => t.movedTo w c (.encSymbol l)).getD s) := by
  simp only [exec, execEncode, encodeStep, h]
  rfl

section
variable (h : s.seq = some { word := w, consumed := c, pos := .encSymbol l })
include h

theorem exec_encode_of_symbol_left (hleft : l.left ≠ 0) :
    exec .encode s = .next ((inByte s { word := w, consumed := c, pos := .encSymbol l } fun b =>
      .encLookup { l with left := l.left - 1 } b).getD s) := by
  simp only [exec, execEncode, encodeStep, h, encSymbolStep, if_neg hleft]

theorem exec_encode_of_mismatch (hleft : l.left = 0) (htotal : l.nbits ≠ s.tbits.toNat) :
    exec .encode s = .next (s.failed 0x0B (BitVec.ofNat 32 l.nbits)) := by
  simp only [exec, execEncode, encodeStep, h, encSymbolStep, if_pos hleft, if_pos htotal]
  rfl

theorem exec_encode_of_total (hleft : l.left = 0) (htotal : l.nbits = s.tbits.toNat) :
    exec .encode s = .next (s.movedTo w c (.encPad l l.p.toNat)) := by
  simp only [exec, execEncode, encodeStep, h, encSymbolStep, if_pos hleft, if_neg (not_not.mpr htotal)]
  rfl

end

theorem exec_encode_of_encLookup (h : s.seq = some { word := w, consumed := c, pos := .encLookup l sym }) :
    exec .encode s = .next (if (codeAt s.ct sym).len = 0 then s.failed 0x0A (sym.setWidth 32)
      else s.movedTo w c (.encBits l sym (codeAt s.ct sym).len.toNat)) := by
  simp only [exec, execEncode, encodeStep, h]
  rfl

theorem exec_encode_of_encBits_zero (h : s.seq = some { word := w, consumed := c, pos := .encBits l sym 0 }) :
    exec .encode s = .next { s.movedTo w c (.encSymbol l) with dcount := s.dcount + 1 } := by
  simp only [exec, execEncode, encodeStep, h]
  rfl

/-- The positions that append a bit: the bit, and where the accumulator goes (R260). -/
inductive AppendsAt (s : State) (l : EncLocals) : Pos → Bool → (List Bool → Pos) → Prop where
  | code (sym : Byte) (k : Nat) :
      AppendsAt s l (.encBits l sym (k + 1)) ((codeAt s.ct sym).code.getLsbD k)
        fun acc => .encBits { l with acc := acc, nbits := l.nbits + 1 } sym k
  | padding (k : Nat) : AppendsAt s l (.encPad l (k + 1)) false fun acc => .encPad { l with acc := acc } k

theorem exec_encode_of_appendsAt {p : Pos} {bit : Bool} {f : List Bool → Pos} (happends : AppendsAt s l p bit f)
    (h : s.seq = some { word := w, consumed := c, pos := p }) :
    exec .encode s = .next (((appendBit s l.acc bit).map fun (t, acc) =>
      moveTo t { word := w, consumed := c, pos := p } (f acc)).getD s) := by
  cases happends
  all_goals simp only [exec, execEncode, encodeStep, h, encBitsStep, encPadStep]

theorem exec_encode_of_encPad_zero (h : s.seq = some { word := w, consumed := c, pos := .encPad l 0 }) :
    exec .encode s = .next s.ended := by
  simp only [exec, execEncode, encodeStep, h]
  rfl

theorem packByte_snoc (bits : List Bool) (bit : Bool) :
    packByte (bits ++ [bit]) = (packByte bits <<< 1) ||| (BitVec.ofBool bit).setWidth 8 := by
  simp [packByte]

/-- Bit `k` of a packed byte is the `k`-th bit from the end (`20_memory.md` R84). -/
theorem getLsbD_packByte (bits : List Bool) {k : Nat} (hk : k < 8) :
    (packByte bits).getLsbD k = bits.reverse.getD k false := by
  induction bits using List.reverseRecOn generalizing k with
  | nil => simp [packByte]
  | append_singleton bits bit ih =>
    rw [packByte_snoc, List.reverse_append, List.reverse_singleton, List.singleton_append, BitVec.getLsbD_or,
      BitVec.getLsbD_shiftLeft, BitVec.getLsbD_setWidth, BitVec.getLsbD_ofBool]
    cases k with
    | zero => simp
    | succ k => simp [hk, ih (Nat.lt_of_succ_lt hk)]

/-- Of eight packed bits the first is bit 7 (`20_memory.md` R84). -/
theorem getElem?_eq_getLsbD_packByte {bits : List Bool} (hlen : bits.length = 8) {k : Nat} (hk : k < 8) :
    bits[k]? = some ((packByte bits).getLsbD (7 - k)) := by
  have hlt : k < bits.length := hlen ▸ hk
  have hrev : 7 - k < bits.reverse.length := by
    rw [List.length_reverse]
    omega
  rw [getLsbD_packByte bits (by omega), List.getD_eq_getElem _ _ hrev, List.getElem_reverse, List.getElem?_eq_getElem hlt]
  congr 2
  omega

/-- Settles O53: the equations of ENCODE's positions. -/
theorem encodeSteps : Obligations.EncodeSteps := by
  refine ⟨fun s c l h => exec_of_outPush (exec_encode_of_encHeader h), fun s c l h => ?symbol,
    fun s c l sym h => exec_encode_of_encLookup h, fun s c l sym h => exec_encode_of_encBits_zero h,
    fun s c l l' p p' b h hpos => ?append, fun s c l h => exec_encode_of_encPad_zero h⟩
  case symbol =>
    have htake (hleft : l.left ≠ 0) := exec_of_inByte (exec_encode_of_symbol_left h hleft)
    exact ⟨exec_encode_of_mismatch h, exec_encode_of_total h, fun hleft => (htake hleft).1,
      fun hleft => (htake hleft).2.1, fun b rest hleft => (htake hleft).2.2 b rest⟩
  case append =>
    obtain ⟨f, happends, hp'⟩ : ∃ f, AppendsAt s l p b f ∧ p' = f l'.acc := by
      rcases hpos with ⟨sym, k, rfl, rfl, rfl, hl'⟩ | ⟨k, rfl, rfl, rfl, hl'⟩
      · exact ⟨_, .code sym k, by rw [hl']⟩
      · exact ⟨_, .padding k, by rw [hl']⟩
    obtain ⟨hkept, hwaits, hpushed⟩ := exec_of_appendBit (exec_encode_of_appendsAt happends h)
    subst hp'
    refine ⟨fun hlen hacc => hacc ▸ hkept hlen, hwaits, fun hlen hacc hroom => ⟨packByte (l.acc ++ [b]), fun k hk => ?_, ?_⟩⟩
    · exact getElem?_eq_getLsbD_packByte (by simpa using hlen) hk
    · exact hacc ▸ hpushed hlen hroom

end Sys2Proof.Machine
end

section
/-! A whole ENCODE (`44_encoder.md` R260, `30_encoding.md` R118): the bits appended so far are the bytes pushed and the rest in
the accumulator. -/

namespace Sys2Proof.Machine

/-- The bits that packing leaves out: those after the last whole byte. -/
def packRest (bits : List Bool) : List Bool := bits.drop (8 * (bits.length / 8))

theorem packRest_length (bits : List Bool) : (packRest bits).length = bits.length % 8 := by
  rw [packRest, List.length_drop]
  omega

theorem pack_of_lt {bits : List Bool} (h : bits.length < 8) : packBits bits = [] ∧ packRest bits = bits := by
  constructor
  · unfold packBits
    split
    · simp only [List.length_cons] at h
      omega
    · rfl
  · rw [packRest, Nat.div_eq_of_lt h]
    rfl

/-- Eight bits are packed into the first byte. -/
theorem pack_append {byte : List Bool} (h : byte.length = 8) (rest : List Bool) :
    packBits (byte ++ rest) = packByte byte :: packBits rest ∧ packRest (byte ++ rest) = packRest rest := by
  constructor
  · match byte, h with
    | [_, _, _, _, _, _, _, _], _ => rfl
  · have hdiv : 8 * ((byte ++ rest).length / 8) = byte.length + 8 * (rest.length / 8) := by
      rw [List.length_append]
      omega
    rw [packRest, hdiv, List.drop_length_add_append, packRest]

/-- Bits are fewer than eight, or eight and more. -/
theorem length_lt_or_eq_append (bits : List Bool) :
    bits.length < 8 ∨ ∃ byte rest, byte.length = 8 ∧ bits = byte ++ rest :=
  (Nat.lt_or_ge bits.length 8).imp_right fun h =>
    ⟨bits.take 8, bits.drop 8, List.length_take_of_le h, (List.take_append_drop 8 bits).symm⟩

/-- One more bit stays in the rest, or completes a byte (R262). -/
theorem pack_snoc (bits : List Bool) (bit : Bool) :
    packBits (bits ++ [bit]) =
        packBits bits ++ (if (packRest bits).length = 7 then [packByte (packRest bits ++ [bit])] else []) ∧
      packRest (bits ++ [bit]) = if (packRest bits).length = 7 then [] else packRest bits ++ [bit] := by
  induction hn : bits.length using Nat.strong_induction_on generalizing bits with
  | _ n ih =>
    rcases length_lt_or_eq_append bits with hlt | ⟨byte, rest, hbyte, rfl⟩
    · obtain ⟨hbytes, hrest⟩ := pack_of_lt hlt
      have hlen : (bits ++ [bit]).length = bits.length + 1 := List.length_append
      rw [hbytes, hrest]
      split
      · next h7 =>
        obtain ⟨hbytes', hrest'⟩ := pack_append (hlen.trans (by omega)) []
        rw [List.append_nil] at hbytes' hrest'
        exact ⟨hbytes', hrest'⟩
      · exact pack_of_lt (by omega)
    · obtain ⟨hbytes, hrest⟩ := pack_append hbyte rest
      obtain ⟨hbytes', hrest'⟩ := pack_append hbyte (rest ++ [bit])
      have hlt : rest.length < n := by
        rw [← hn, List.length_append]
        omega
      obtain ⟨ihbytes, ihrest⟩ := ih rest.length hlt rest rfl
      rw [List.append_assoc, hbytes, hrest, hbytes', hrest', ihbytes, ihrest]
      exact ⟨rfl, rfl⟩

theorem packBits_length (bits : List Bool) : (packBits bits).length = bits.length / 8 := by
  induction bits using List.reverseRecOn with
  | nil => rfl
  | append_singleton bits bit ih =>
    have hrest := packRest_length bits
    rw [(pack_snoc bits bit).1, List.length_append, ih, List.length_append, List.length_singleton]
    split
    · rw [List.length_singleton]
      omega
    · rw [List.length_nil]
      omega

/-- A running ENCODE that has come from `s`: the input left, the budget left, the symbols counted, the bits appended, and
where it stands. -/
def encState (s : State) (input : List Byte) (budget count : Nat) (bits : List Bool) (c : BitVec 32) (p : Pos) : State :=
  { s with
    inFifo := input, inRemain := BitVec.ofNat 32 budget, pad := (encStartLocals s).p, dcount := BitVec.ofNat 40 count
    outFifo := s.outFifo ++ (encStartLocals s).p :: packBits bits
    seq := some { word := 0x06, consumed := c, pos := p } }

/-- The locals of that ENCODE: the rest of the bits is in the accumulator. -/
def encLocals (s : State) (left : Nat) (bits : List Bool) (nbits : Nat) : EncLocals :=
  { p := (encStartLocals s).p, left := left, acc := packRest bits, nbits := nbits }

/-- The output FIFO takes the header byte and the bytes of `n` bits. -/
def State.roomForBits (s : State) (n : Nat) : Prop := s.outFifo.length + 1 + n / 8 ≤ s.params.ofifoDepth

theorem State.roomForBits.mono {s : State} {m n : Nat} (h : s.roomForBits n) (hle : m ≤ n) : s.roomForBits m := by
  have := Nat.div_le_div_right (c := 8) hle
  unfold State.roomForBits at *
  omega

variable {s : State} {input : List Byte} {budget count left nbits : Nat} {bits : List Bool} {c : BitVec 32}

/-- With room for the byte it may complete, a bit is appended in one step. -/
theorem exec_encState_of_appendsAt {p : Pos} {bit : Bool} {f : List Bool → Pos}
    (happends : AppendsAt (encState s input budget count bits c p) (encLocals s left bits nbits) p bit f)
    (hroom : s.roomForBits (bits.length + 1)) :
    exec .encode (encState s input budget count bits c p) =
      .next (encState s input budget count (bits ++ [bit]) c (f (packRest (bits ++ [bit])))) := by
  obtain ⟨hkept, -, hpushed⟩ := exec_of_appendBit (exec_encode_of_appendsAt happends rfl)
  obtain ⟨hbytes, hrest⟩ := pack_snoc bits bit
  by_cases hlen : (packRest bits).length = 7
  · rw [if_pos hlen] at hbytes hrest
    have hroom' : (encState s input budget count bits c p).room := by
      have := packRest_length bits
      have hlevel : (s.outFifo ++ (encStartLocals s).p :: packBits bits).length = s.outFifo.length + (bits.length / 8 + 1) := by
        rw [List.length_append, List.length_cons, packBits_length]
      unfold State.roomForBits at hroom
      change (s.outFifo ++ (encStartLocals s).p :: packBits bits).length < s.params.ofifoDepth
      omega
    refine (hpushed hlen hroom').trans ?_
    rw [hrest]
    simp only [encState, hbytes, moveTo, encLocals, List.append_assoc, List.cons_append]
  · rw [if_neg hlen] at hbytes hrest
    refine (hkept hlen).trans ?_
    rw [hrest]
    simp only [encState, hbytes, moveTo, encLocals, List.append_nil]

/-- Bits `k - 1` down to 0 of a code value, in the order they are appended (`00_scope.md` R11). -/
def lowBits (code : BitVec 256) (k : Nat) : List Bool := (List.range k).reverse.map code.getLsbD

theorem lowBits_succ (code : BitVec 256) (k : Nat) : lowBits code (k + 1) = code.getLsbD k :: lowBits code k := by
  simp [lowBits, List.range_succ]

@[simp] theorem lowBits_length (code : BitVec 256) (k : Nat) : (lowBits code k).length = k := by simp [lowBits]

theorem codeBits_eq_lowBits (e : CodeEntry) : codeBits e = lowBits e.code e.len.toNat := rfl

/-- The last `k` bits of a code are appended one a step (R260). -/
theorem runs_encBits (sym : Byte) {k : Nat} (hroom : s.roomForBits (bits.length + k)) :
    Runs .encode (encState s input budget count bits c (.encBits (encLocals s left bits nbits) sym k))
      (encState s input budget count (bits ++ lowBits (codeAt s.ct sym).code k) c
        (.encBits (encLocals s left (bits ++ lowBits (codeAt s.ct sym).code k) (nbits + k)) sym 0)) := by
  induction k generalizing bits nbits with
  | zero =>
    have hnil : bits ++ lowBits (codeAt s.ct sym).code 0 = bits := List.append_nil bits
    rw [hnil]
    exact .refl ..
  | succ k ih =>
    have hstep := exec_encState_of_appendsAt (s := s) (input := input) (budget := budget) (count := count) (c := c)
      (.code (l := encLocals s left bits nbits) sym k) (hroom.mono (by omega))
    have hrest := ih (bits := bits ++ [(codeAt s.ct sym).code.getLsbD k]) (nbits := nbits + 1)
      (hroom.mono (by rw [List.length_append, List.length_singleton]; omega))
    rw [List.append_assoc, List.singleton_append, ← lowBits_succ, add_assoc, add_comm 1 k] at hrest
    exact hrest.head hstep

/-- Zero padding bits are appended one a step, and then the command ends (R260). -/
theorem runs_encPad {k : Nat} (hroom : s.roomForBits (bits.length + k)) :
    Runs .encode (encState s input budget count bits c (.encPad (encLocals s left bits nbits) k))
      (State.ended (encState s input budget count (bits ++ List.replicate k false) c .start)) := by
  induction k generalizing bits with
  | zero =>
    rw [List.replicate_zero, List.append_nil]
    exact .single (exec_encode_of_encPad_zero rfl)
  | succ k ih =>
    have hstep := exec_encState_of_appendsAt (s := s) (input := input) (budget := budget) (count := count) (c := c)
      (.padding (l := encLocals s left bits nbits) k) (hroom.mono (by omega))
    have hrest := ih (bits := bits ++ [false]) (hroom.mono (by rw [List.length_append, List.length_singleton]; omega))
    rw [List.append_assoc, List.singleton_append, ← List.replicate_succ] at hrest
    exact hrest.head hstep

/-- A symbol is taken, looked up, sent and counted. -/
theorem runs_encSymbol {x : Byte} (hcode : (codeAt s.ct x).len ≠ 0) (hbudget : budget + 1 < 2 ^ 32)
    (hroom : s.roomForBits (bits.length + (codeBits (codeAt s.ct x)).length)) :
    ∃ c', Runs .encode
      (encState s (x :: input) (budget + 1) count bits c (.encSymbol (encLocals s (left + 1) bits bits.length)))
      (encState s input budget (count + 1) (bits ++ codeBits (codeAt s.ct x)) c'
        (.encSymbol (encLocals s left (bits ++ codeBits (codeAt s.ct x)) (bits ++ codeBits (codeAt s.ct x)).length))) := by
  have htake : exec .encode
      (encState s (x :: input) (budget + 1) count bits c (.encSymbol (encLocals s (left + 1) bits bits.length))) =
      .next (encState s input budget count bits (c + 1) (.encLookup (encLocals s left bits bits.length) x)) := by
    refine ((exec_of_inByte (exec_encode_of_symbol_left rfl (Nat.succ_ne_zero left))).2.2 x input
      (ofNat_succ_ne_zero hbudget) rfl).trans ?_
    simp only [encState, State.took, ofNat_succ_sub_one]
    rfl
  have hlookup : exec .encode (encState s input budget count bits (c + 1) (.encLookup (encLocals s left bits bits.length) x)) =
      .next (encState s input budget count bits (c + 1)
        (.encBits (encLocals s left bits bits.length) x (codeAt s.ct x).len.toNat)) :=
    (exec_encode_of_encLookup rfl).trans (congrArg Host.Outcome.next (if_neg hcode))
  have hbits := runs_encBits (s := s) (input := input) (budget := budget) (count := count) (bits := bits) (left := left)
    (nbits := bits.length) (c := c + 1) x (k := (codeAt s.ct x).len.toNat)
    (by simpa [codeBits_eq_lowBits] using hroom)
  have hcount : BitVec.ofNat 40 count + 1 = BitVec.ofNat 40 (count + 1) := (BitVec.ofNat_add ..).symm
  have hlen : bits.length + (codeAt s.ct x).len.toNat = (bits ++ codeBits (codeAt s.ct x)).length := by
    rw [List.length_append, codeBits_eq_lowBits, lowBits_length]
  rw [← codeBits_eq_lowBits, hlen] at hbits
  refine ⟨c + 1, .head htake (.head hlookup (hbits.trans (.single ((exec_encode_of_encBits_zero rfl).trans ?_))))⟩
  simp only [encState, State.movedTo, hcount]

/-- The codes of a symbol list, one after the other. -/
def streamBits (ct : Vector CodeEntry 256) (xs : List Byte) : List Bool := xs.flatMap fun x => codeBits (codeAt ct x)

theorem streamBits_cons (ct : Vector CodeEntry 256) (x : Byte) (xs : List Byte) :
    streamBits ct (x :: xs) = codeBits (codeAt ct x) ++ streamBits ct xs := List.flatMap_cons

/-- Symbol by symbol, the codes are appended in order. -/
theorem runs_encSymbols {xs rest : List Byte} (hcodes : ∀ x ∈ xs, (codeAt s.ct x).len ≠ 0) (hbudget : xs.length < 2 ^ 32)
    (hroom : s.roomForBits (bits.length + (streamBits s.ct xs).length)) :
    ∃ c', Runs .encode
      (encState s (xs ++ rest) xs.length count bits c (.encSymbol (encLocals s xs.length bits bits.length)))
      (encState s rest 0 (count + xs.length) (bits ++ streamBits s.ct xs) c'
        (.encSymbol (encLocals s 0 (bits ++ streamBits s.ct xs) (bits ++ streamBits s.ct xs).length))) := by
  induction xs generalizing bits count c with
  | nil =>
    rw [streamBits, List.flatMap_nil, List.append_nil]
    exact ⟨c, .refl ..⟩
  | cons x xs ih =>
    obtain ⟨hcode, hcodes⟩ := List.forall_mem_cons.mp hcodes
    rw [streamBits_cons, List.length_append] at hroom
    obtain ⟨c1, hsymbol⟩ := runs_encSymbol (s := s) (input := xs ++ rest) (budget := xs.length) (count := count)
      (left := xs.length) (bits := bits) (c := c) hcode hbudget (hroom.mono (by omega))
    obtain ⟨c2, hrest⟩ := ih (bits := bits ++ codeBits (codeAt s.ct x)) (count := count + 1) (c := c1) hcodes
      (Nat.lt_of_succ_lt hbudget) (hroom.mono (by rw [List.length_append]; omega))
    rw [List.append_assoc, ← streamBits_cons, add_assoc, add_comm 1] at hrest
    exact ⟨c2, hsymbol.trans hrest⟩

/-- The start and the header byte, which finds room. -/
theorem runs_encStart (hacc : s.accepted 0x06) (hvalid : s.ctValid = true) (hlen : s.inRemain.setWidth 40 = s.symcnt)
    (hroom : s.room) :
    Runs .encode s (encState s s.inFifo s.inRemain.toNat 0 [] 0 (.encSymbol (encLocals s s.inRemain.toNat [] 0))) := by
  have hstart := encodeStart_of_length hvalid hlen ▸ exec_encode_of_start hacc
  have hrem : BitVec.ofNat 32 s.inRemain.toNat = s.inRemain := by rw [BitVec.ofNat_toNat, BitVec.setWidth_eq]
  have hheader := exec_encode_of_encHeader
    (s := { s.movedTo 0x06 0 (.encHeader (encStartLocals s)) with pad := (encStartLocals s).p, dcount := 0 }) rfl
  refine .head hstart (.single (((exec_of_outPush hheader).1 hroom).trans ?_))
  rw [encState, hrem]
  rfl

/-- Settles O55: the header byte, the symbols, the total, the padding bits. -/
theorem encodeSendsTheWholeStream : Obligations.EncodeSendsTheWholeStream := by
  intro s xs rest hacc hvalid hlen hxs hfifo hcodes htotal p hfit
  have hroom : s.roomForBits (s.tbits.toNat + p) := hfit
  have htotal' : ([] ++ streamBits s.ct xs).length = s.tbits.toNat := htotal
  have hp : (encStartLocals s).p.toNat = p := ofNat_padCount_toNat ..
  have hxs' : xs.length < 2 ^ 32 := hxs ▸ s.inRemain.isLt
  have hstart := runs_encStart hacc hvalid hlen (by unfold State.room; omega)
  rw [hfifo, ← hxs] at hstart
  obtain ⟨c, hsymbols⟩ := runs_encSymbols (s := s) (bits := []) (count := 0) (c := 0) (rest := rest) hcodes hxs'
    (hroom.mono (by rw [← htotal]; exact (Nat.zero_add _).trans_le (Nat.le_add_right ..)))
  have hpad := runs_encPad (s := s) (input := rest) (budget := 0) (count := 0 + xs.length) (left := 0)
    (bits := [] ++ streamBits s.ct xs) (nbits := ([] ++ streamBits s.ct xs).length) (c := c) (k := p) (htotal'.symm ▸ hroom)
  have htotalStep : exec .encode (encState s rest 0 (0 + xs.length) ([] ++ streamBits s.ct xs) c
      (.encSymbol (encLocals s 0 ([] ++ streamBits s.ct xs) ([] ++ streamBits s.ct xs).length))) =
      .next (encState s rest 0 (0 + xs.length) ([] ++ streamBits s.ct xs) c
        (.encPad (encLocals s 0 ([] ++ streamBits s.ct xs) ([] ++ streamBits s.ct xs).length) p)) :=
    (exec_encode_of_total rfl rfl htotal').trans (by rw [← hp]; rfl)
  have hrun := (hstart.trans hsymbols).trans (hpad.head htotalStep)
  rw [Nat.zero_add] at hrun
  exact hrun

end Sys2Proof.Machine
end

section
/-! DECODE (`45_decoder.md` R283 to R296): its start and its positions. -/

namespace Sys2Proof.Machine

variable {s : State} {w : Word} {c : BitVec 32} {l : DecLocals}

theorem exec_decode_of_start (h : s.seq = some { word := w, consumed := c, pos := .start }) :
    exec .decode s = .next (decodeStart s) := by
  simp only [exec, execDecode, decodeStep, h, Option.getD_some]

theorem decodeStart_of_no_tree (h : s.treeValid = false) : decodeStart s = s.failed 0x03 0 := if_neg (by simp [h])

theorem decodeStart_of_tree (h : s.treeValid = true) :
    decodeStart s = { s.movedTo 0x07 0 (.decHeader s.inRemain) with dcount := 0 } := if_pos h

theorem exec_decode_of_decHeader {len : Word} (h : s.seq = some { word := w, consumed := c, pos := .decHeader len }) :
    exec .decode s =
      .next ((inByte s { word := w, consumed := c, pos := .decHeader len } (.decCheckPad len)).getD s) := by
  simp only [exec, execDecode, decodeStep, h]

/-- The locals the walk starts with: `p` padding bits after the effective ones, no bit in hand (R284). -/
def decStartLocals (s : State) (len : Word) (p : Byte) : DecLocals :=
  { p := p, e := 8 * (len.toNat - 1) - p.toNat, j := 0, x := s.root, cur := 0, nb := 0 }

theorem exec_decode_of_decCheckPad {len : Word} {p : Byte}
    (h : s.seq = some { word := w, consumed := c, pos := .decCheckPad len p }) :
    exec .decode s = .next (if 8 < p.toNat ∨ 8 * (len.toNat - 1) < p.toNat then
      State.failed { s with pad := p } 0x0C (p.setWidth 32)
      else { s.movedTo w c (.decWalk (decStartLocals s len p)) with pad := p }) := by
  simp only [exec, execDecode, decodeStep, h]
  rfl

/-- Settles O56: the start, the header byte, and the check of the padding count. -/
theorem decodeStartsAndChecksPadding : Obligations.DecodeStartsAndChecksPadding := by
  refine ⟨fun s hacc => ?start, fun s c len h => exec_of_inByte (exec_decode_of_decHeader h), fun s c len p h => ?check⟩
  case start =>
    rw [exec_decode_of_start hacc]
    exact ⟨fun h => by rw [decodeStart_of_no_tree h], fun h => by rw [decodeStart_of_tree h]⟩
  case check =>
    rw [exec_decode_of_decCheckPad h]
    refine ⟨fun hbad => by rw [if_pos hbad], fun hle hle' => ?_⟩
    rw [if_neg (by omega)]
    rfl

/-- The bit in hand, `cur[nb - 1]`, moves the walker to this child (R287, R289). -/
def walkChild (s : State) (l : DecLocals) : NodeIx :=
  if l.cur.getLsbD (l.nb - 1) then (nodeAt s.arena l.x).right else (nodeAt s.arena l.x).left

/-- The bit in hand ends a code of symbol `sym`: it leads to a leaf, or it is the 0 of a single leaf (R287, R290). -/
def WalkEmits (s : State) (l : DecLocals) (sym : Byte) : Prop :=
  ((nodeAt s.arena s.root).leaf = true ∧ l.cur.getLsbD (l.nb - 1) = false ∧ sym = (nodeAt s.arena s.root).sym) ∨
    ((nodeAt s.arena s.root).leaf = false ∧ (nodeAt s.arena (walkChild s l)).leaf = true ∧
      sym = (nodeAt s.arena (walkChild s l)).sym)

theorem walkBit_of_leaf (q : Seq) (h : (nodeAt s.arena s.root).leaf = true) :
    walkBit s q l =
      if l.cur.getLsbD (l.nb - 1) then some (cmdFail s .badBit (BitVec.ofNat 32 l.j))
      else emitSymbol s q l (nodeAt s.arena s.root).sym := if_pos h

theorem walkBit_of_internal (q : Seq) (h : (nodeAt s.arena s.root).leaf = false) :
    walkBit s q l =
      if (nodeAt s.arena (walkChild s l)).leaf then emitSymbol s q l (nodeAt s.arena (walkChild s l)).sym
      else some (moveTo s q (.decWalk { l with j := l.j + 1, x := walkChild s l, nb := l.nb - 1 })) :=
  if_neg (by simp [h])

theorem walkBit_of_walkEmits (q : Seq) {sym : Byte} (h : WalkEmits s l sym) : walkBit s q l = emitSymbol s q l sym := by
  rcases h with ⟨hleaf, hbit, rfl⟩ | ⟨hroot, hchild, rfl⟩
  · rw [walkBit_of_leaf q hleaf, if_neg (by simp [hbit])]
  · rw [walkBit_of_internal q hroot, if_pos hchild]

section
variable (h : s.seq = some { word := w, consumed := c, pos := .decWalk l })
include h

theorem exec_decode_of_midTree (hend : l.e ≤ l.j) (hx : l.x ≠ s.root) :
    exec .decode s = .next (s.failed 0x0E (s.dcount.extractLsb' 0 32)) := by
  simp only [exec, execDecode, decodeStep, h, decWalkStep, if_pos hend, if_pos hx]
  rfl

theorem exec_decode_of_walk_end (hend : l.e ≤ l.j) (hx : l.x = s.root) :
    exec .decode s = .next (s.movedTo w c (.decPad l l.p.toNat false)) := by
  simp only [exec, execDecode, decodeStep, h, decWalkStep, if_pos hend, if_neg (not_not.mpr hx)]
  rfl

theorem exec_decode_of_walk_byte (hmore : l.j < l.e) (hnb : l.nb = 0) :
    exec .decode s = .next ((inByte s { word := w, consumed := c, pos := .decWalk l } fun b =>
      .decWalk { l with cur := b, nb := 8 }).getD s) := by
  simp only [exec, execDecode, decodeStep, h, decWalkStep, if_neg (not_le.mpr hmore), if_pos hnb, nextByte]

variable (hmore : l.j < l.e) (hnb : l.nb ≠ 0)
include hmore hnb

theorem exec_decode_of_walkBit :
    exec .decode s = .next ((walkBit s { word := w, consumed := c, pos := .decWalk l } l).getD s) := by
  simp only [exec, execDecode, decodeStep, h, decWalkStep, if_neg (not_le.mpr hmore), if_neg hnb]

theorem exec_decode_of_badBit (hleaf : (nodeAt s.arena s.root).leaf = true) (hbit : l.cur.getLsbD (l.nb - 1) = true) :
    exec .decode s = .next (s.failed 0x0D (BitVec.ofNat 32 l.j)) := by
  rw [exec_decode_of_walkBit h hmore hnb, walkBit_of_leaf _ hleaf, if_pos hbit]
  rfl

theorem exec_decode_of_inner_bit (hroot : (nodeAt s.arena s.root).leaf = false)
    (hchild : (nodeAt s.arena (walkChild s l)).leaf = false) :
    exec .decode s =
      .next (s.movedTo w c (.decWalk { l with j := l.j + 1, x := walkChild s l, nb := l.nb - 1 })) := by
  rw [exec_decode_of_walkBit h hmore hnb, walkBit_of_internal _ hroot, if_neg (by simp [hchild])]
  rfl

theorem exec_decode_of_walkEmits {sym : Byte} (hemits : WalkEmits s l sym) :
    exec .decode s = .next (((outPush s sym).map fun t =>
      { t.movedTo w c (.decWalk { l with j := l.j + 1, x := s.root, nb := l.nb - 1 }) with
        dcount := t.dcount + 1 }).getD s) := by
  rw [exec_decode_of_walkBit h hmore hnb, walkBit_of_walkEmits _ hemits]
  rfl

end

/-- Settles O57: the equations of the walk, by what is in hand and where the bit leads. -/
theorem decodeWalkSteps : Obligations.DecodeWalkSteps := by
  intro s c l h b child
  have htake (hmore : l.j < l.e) (hnb : l.nb = 0) := exec_of_inByte (exec_decode_of_walk_byte h hmore hnb)
  exact ⟨exec_decode_of_midTree h, exec_decode_of_walk_end h, fun hmore hnb => (htake hmore hnb).1,
    fun hmore hnb => (htake hmore hnb).2.1, fun y rest hmore hnb => (htake hmore hnb).2.2 y rest,
    exec_decode_of_badBit h, exec_decode_of_inner_bit h,
    fun sym hmore hnb hemits => exec_of_outPush (exec_decode_of_walkEmits h hmore hnb hemits)⟩

section
variable {k : Nat} {z : Bool} (h : s.seq = some { word := w, consumed := c, pos := .decPad l (k + 1) z })
include h

theorem exec_decode_of_pad_byte (hnb : l.nb = 0) :
    exec .decode s = .next ((inByte s { word := w, consumed := c, pos := .decPad l (k + 1) z } fun b =>
      .decPad { l with cur := b, nb := 8 } (k + 1) z).getD s) := by
  simp only [exec, execDecode, decodeStep, h, decPadStep, if_pos hnb, nextByte]

theorem exec_decode_of_pad_bit (hnb : l.nb ≠ 0) :
    exec .decode s =
      .next (s.movedTo w c (.decPad { l with nb := l.nb - 1 } k (z || l.cur.getLsbD (l.nb - 1)))) := by
  simp only [exec, execDecode, decodeStep, h, decPadStep, if_neg hnb]
  rfl

end

/-- The checks after the last padding bit, in their order (R294 to R296). -/
theorem exec_decode_of_decPad_zero {z : Bool} (h : s.seq = some { word := w, consumed := c, pos := .decPad l 0 z }) :
    exec .decode s = .next (
      if s.ctrl.padchk = true ∧ z = true then s.failed 0x0F (l.p.setWidth 32)
      else if s.ctrl.cntchk = true ∧ s.dcount ≠ s.symcnt then s.failed 0x10 (s.dcount.extractLsb' 0 32)
      else s.ended) := by
  simp only [exec, execDecode, decodeStep, h, decPadStep, decEnd, Bool.and_eq_true, bne_iff_ne]
  rfl

/-- Settles O58: a padding bit, and the checks in their order. -/
theorem decodeEndsWithItsChecks : Obligations.DecodeEndsWithItsChecks := by
  refine ⟨fun s c l k z h => ?pad, fun s c l z h => ?checks⟩
  case pad =>
    have htake (hnb : l.nb = 0) := exec_of_inByte (exec_decode_of_pad_byte h hnb)
    exact ⟨fun hnb => (htake hnb).1, fun hnb => (htake hnb).2.1, fun y rest hnb => (htake hnb).2.2 y rest,
      exec_decode_of_pad_bit h⟩
  case checks =>
    rw [exec_decode_of_decPad_zero h]
    refine ⟨fun hchk hz => by rw [if_pos ⟨hchk, hz⟩], fun hpad hchk hcount => ?count, fun hpad hcount => ?ended⟩
    case count => rw [if_neg (by rcases hpad with hpad | hpad <;> simp [hpad]), if_pos ⟨hchk, hcount⟩]
    case ended =>
      rw [if_neg (by rcases hpad with hpad | hpad <;> simp [hpad]),
        if_neg (by rcases hcount with hcount | hcount <;> simp [hcount])]

end Sys2Proof.Machine
end

section
/-! A whole DECODE (`45_decoder.md` R284 to R293, `44_encoder.md` R269): the bits still to be used are those in hand and those
packed in the input. -/

namespace Sys2Proof.Machine

/-- The bits `todo` stand ready: the first of them are the `nb` low bits of `cur`, the others are packed in `budget` bytes of
the input, before `rest`. -/
structure InHand (todo : List Bool) (rest : List Byte) (cur : Byte) (nb : Nat) (input : List Byte) (budget : Nat) : Prop where
  bits : ∀ k, k < nb → todo[k]? = some (cur.getLsbD (nb - 1 - k))
  input : input = packBits (todo.drop nb) ++ rest
  length : todo.length = nb + 8 * budget

variable {todo : List Bool} {rest input : List Byte} {cur : Byte} {nb budget : Nat} {bit : Bool}

/-- The next bit is the highest of those in hand (R288). -/
theorem InHand.head (h : InHand (bit :: todo) rest cur nb input budget) (hnb : nb ≠ 0) : cur.getLsbD (nb - 1) = bit :=
  (Option.some.inj (h.bits 0 (Nat.pos_of_ne_zero hnb))).symm

theorem InHand.tail (h : InHand (bit :: todo) rest cur nb input budget) (hnb : nb ≠ 0) :
    InHand todo rest cur (nb - 1) input budget := by
  obtain ⟨n, rfl⟩ := Nat.exists_eq_succ_of_ne_zero hnb
  refine ⟨fun k hk => ?_, h.input, ?_⟩
  · have := h.bits (k + 1) (Nat.succ_lt_succ hk)
    rw [List.getElem?_cons_succ] at this
    rw [this]
    congr 2
    omega
  · have := h.length
    rw [List.length_cons] at this
    omega

/-- With no bit in hand, the next byte of the input is that of the next eight bits (R288). -/
theorem InHand.byte (h : InHand todo rest cur 0 input budget) (hne : todo ≠ []) :
    ∃ y input' budget', input = y :: input' ∧ budget = budget' + 1 ∧ InHand todo rest y 8 input' budget' := by
  have hlen := h.length
  have hpos : 0 < todo.length := List.length_pos_iff.mpr hne
  obtain ⟨n, rfl⟩ : ∃ n, budget = n + 1 := ⟨budget - 1, by omega⟩
  obtain hlt | ⟨byte, bits, hbyte, rfl⟩ := length_lt_or_eq_append todo
  · omega
  have hdrop : (byte ++ bits).drop 8 = bits := by rw [← hbyte, List.drop_left]
  refine ⟨packByte byte, packBits bits ++ rest, n, ?_, rfl, fun k hk => ?_, ?_, ?_⟩
  · rw [h.input, List.drop_zero, (pack_append hbyte bits).1, List.cons_append]
  · rw [List.getElem?_append_left (by omega)]
    exact getElem?_eq_getLsbD_packByte hbyte hk
  · rw [hdrop]
  · omega

/-- A running DECODE that has come from `s`: the input and the budget left, the symbols pushed, and where it stands. -/
def decState (s : State) (pad : Byte) (out input : List Byte) (budget : Nat) (c : BitVec 32) (p : Pos) : State :=
  { s with
    inFifo := input, inRemain := BitVec.ofNat 32 budget, pad := pad, dcount := BitVec.ofNat 40 out.length
    outFifo := s.outFifo ++ out, seq := some { word := 0x07, consumed := c, pos := p } }

/-- `t` is a DECODE that has come from `s` and pushed `out`, with the bits `todo` ready; its position depends on the byte
in hand. -/
def DecodingAt (s : State) (pad : Byte) (rest : List Byte) (todo : List Bool) (out : List Byte) (pos : Byte → Nat → Pos)
    (t : State) : Prop :=
  ∃ cur nb input budget c, InHand todo rest cur nb input budget ∧ budget < 2 ^ 32 ∧
    t = decState s pad out input budget c (pos cur nb)

/-- A position takes a byte when no bit is in hand. -/
def TakesByte (pos : Byte → Nat → Pos) : Prop :=
  ∀ (u : State) (c : BitVec 32) (cur : Byte), u.seq = some { word := 0x07, consumed := c, pos := pos cur 0 } →
    exec .decode u = .next ((inByte u { word := 0x07, consumed := c, pos := pos cur 0 } fun b => pos b 8).getD u)

variable {s t : State} {pad : Byte} {out : List Byte} {pos : Byte → Nat → Pos}

/-- Where bits are ready, a bit comes into hand. -/
theorem exists_bit_in_hand (hbyte : TakesByte pos) (h : DecodingAt s pad rest todo out pos t) (hne : todo ≠ []) :
    ∃ cur nb input budget c, nb ≠ 0 ∧ InHand todo rest cur nb input budget ∧ budget < 2 ^ 32 ∧
      Runs .decode t (decState s pad out input budget c (pos cur nb)) := by
  obtain ⟨cur, nb, input, budget, c, hready, hbudget, rfl⟩ := h
  by_cases hnb : nb = 0
  · subst hnb
    obtain ⟨y, input', budget', rfl, rfl, hready'⟩ := hready.byte hne
    refine ⟨y, 8, input', budget', c + 1, by decide, hready', by omega, .single ?_⟩
    refine ((exec_of_inByte (hbyte _ c cur rfl)).2.2 y input' (ofNat_succ_ne_zero hbudget) rfl).trans ?_
    simp only [decState, State.took, ofNat_succ_sub_one]
  · exact ⟨cur, nb, input, budget, c, hnb, hready, hbudget, .refl ..⟩

/-- The walk's position with `j` bits walked, at node `x`. -/
def walkPos (p : Byte) (e j : Nat) (x : NodeIx) (cur : Byte) (nb : Nat) : Pos :=
  .decWalk { p := p, e := e, j := j, x := x, cur := cur, nb := nb }

variable {p : Byte} {e j : Nat} {x y : NodeIx} {sym : Byte}

theorem takesByte_walkPos (hmore : j < e) : TakesByte (walkPos p e j x) := fun _ _ _ h =>
  exec_decode_of_walk_byte h hmore rfl

/-- The bit leads from node `x` to node `y` (R287). -/
def BitLeads (s : State) (x : NodeIx) (bit : Bool) (y : NodeIx) : Prop :=
  (if bit then (nodeAt s.arena x).right else (nodeAt s.arena x).left) = y

/-- A bit to an internal node moves the walker there. -/
theorem runs_inner_bit (hmore : j < e) (hroot : (nodeAt s.arena s.root).leaf = false) (hy : BitLeads s x bit y)
    (hinner : (nodeAt s.arena y).leaf = false) (h : DecodingAt s pad rest (bit :: todo) out (walkPos p e j x) t) :
    ∃ u, Runs .decode t u ∧ DecodingAt s pad rest todo out (walkPos p e (j + 1) y) u := by
  obtain ⟨cur, nb, input, budget, c, hnb, hready, hbudget, hrun⟩ :=
    exists_bit_in_hand (takesByte_walkPos hmore) h (List.cons_ne_nil _ _)
  have hchild : walkChild s { p := p, e := e, j := j, x := x, cur := cur, nb := nb } = y := by
    rw [← hy, ← hready.head hnb]
    rfl
  have hstep := exec_decode_of_inner_bit (s := decState s pad out input budget c (walkPos p e j x cur nb)) rfl hmore hnb
    hroot (hchild.symm ▸ hinner)
  refine ⟨_, hrun.trans (.single hstep), cur, nb - 1, input, budget, c, hready.tail hnb, hbudget, ?_⟩
  rw [← hchild]
  rfl

/-- A bit that ends a code pushes the symbol and takes the walker back to ROOT. -/
theorem runs_last_bit (hmore : j < e) (hroom : s.outFifo.length + out.length < s.params.ofifoDepth)
    (hemits : ∀ cur nb, cur.getLsbD (nb - 1) = bit → WalkEmits s { p := p, e := e, j := j, x := x, cur := cur, nb := nb } sym)
    (h : DecodingAt s pad rest (bit :: todo) out (walkPos p e j x) t) :
    ∃ u, Runs .decode t u ∧ DecodingAt s pad rest todo (out ++ [sym]) (walkPos p e (j + 1) s.root) u := by
  obtain ⟨cur, nb, input, budget, c, hnb, hready, hbudget, hrun⟩ :=
    exists_bit_in_hand (takesByte_walkPos hmore) h (List.cons_ne_nil _ _)
  have hroom' : (decState s pad out input budget c (walkPos p e j x cur nb)).room := by
    rw [← List.length_append] at hroom
    exact hroom
  have hstep := (exec_of_outPush (exec_decode_of_walkEmits
    (s := decState s pad out input budget c (walkPos p e j x cur nb)) rfl hmore hnb
    (hemits cur nb (hready.head hnb)))).1 hroom'
  refine ⟨_, hrun.trans (.single hstep), cur, nb - 1, input, budget, c, hready.tail hnb, hbudget, ?_⟩
  have hcount : BitVec.ofNat 40 out.length + 1 = BitVec.ofNat 40 (out ++ [sym]).length := by
    rw [List.length_append, List.length_singleton, BitVec.ofNat_add]
    rfl
  simp only [decState, State.movedTo, hcount, List.append_assoc]
  rfl

/-- The bits of a path, from a node on it to its leaf, push the leaf's symbol (R231). -/
theorem runs_path {pre suf : List Bool} (hroot : (nodeAt s.arena s.root).leaf = false)
    (hpath : LeadsTo s.arena s.root (pre ++ suf) sym) (hne : suf ≠ []) (hmore : j + suf.length ≤ e)
    (hroom : s.outFifo.length + out.length < s.params.ofifoDepth)
    (h : DecodingAt s pad rest (suf ++ todo) out (walkPos p e j (followBits s.arena s.root pre)) t) :
    ∃ u, Runs .decode t u ∧ DecodingAt s pad rest todo (out ++ [sym]) (walkPos p e (j + suf.length) s.root) u := by
  induction suf generalizing pre j t with
  | nil => exact absurd rfl hne
  | cons bit suf ih =>
    have hleads : BitLeads s (followBits s.arena s.root pre) bit (followBits s.arena s.root (pre ++ [bit])) :=
      (followBits_snoc pre bit).symm
    rw [List.length_cons] at hmore
    obtain ⟨hinner, hleaf, hsym⟩ := hpath
    by_cases hend : suf = []
    · subst hend
      refine runs_last_bit (by omega) hroom (fun cur nb hbit => .inr ⟨hroot, ?_⟩) h
      have hchild : walkChild s { p := p, e := e, j := j, x := followBits s.arena s.root pre, cur := cur, nb := nb } =
          followBits s.arena s.root (pre ++ [bit]) := by
        rw [← hleads, ← hbit]
        rfl
      rw [hchild]
      exact ⟨hleaf, hsym.symm⟩
    · have hpre : pre ++ bit :: suf = (pre ++ [bit]) ++ suf := by simp
      rw [hpre] at hinner hleaf hsym
      have hlt : (pre ++ [bit]).length < ((pre ++ [bit]) ++ suf).length := by
        rw [List.length_append (as := pre ++ [bit])]
        exact Nat.lt_add_of_pos_right (List.length_pos_iff.mpr hend)
      have hnode := hinner _ hlt
      rw [List.take_left] at hnode
      obtain ⟨u, hrun, hu⟩ := runs_inner_bit (by omega) hroot hleads hnode h
      obtain ⟨v, hrun', hv⟩ := ih ⟨hinner, hleaf, hsym⟩ hend (by omega) hu
      refine ⟨v, hrun.trans hrun', ?_⟩
      rw [List.length_cons, Nat.add_comm suf.length 1, ← Nat.add_assoc]
      exact hv

/-- The code of symbol `x` is the path to its leaf, or "0" for a single leaf (R231, R235). -/
def PathCode (s : State) (code : List Bool) (x : Byte) : Prop :=
  ((nodeAt s.arena s.root).leaf = false ∧ LeadsTo s.arena s.root code x) ∨
    ((nodeAt s.arena s.root).leaf = true ∧ x = (nodeAt s.arena s.root).sym ∧ code = [false])

theorem runs_symbol {code : List Bool} {a : Byte} (hcode : PathCode s code a) (hmore : j + code.length ≤ e)
    (hroom : s.outFifo.length + out.length < s.params.ofifoDepth)
    (h : DecodingAt s pad rest (code ++ todo) out (walkPos p e j s.root) t) :
    ∃ u, Runs .decode t u ∧ DecodingAt s pad rest todo (out ++ [a]) (walkPos p e (j + code.length) s.root) u := by
  rcases hcode with ⟨hroot, hpath⟩ | ⟨hleaf, rfl, rfl⟩
  · have hne : code ≠ [] := by
      rintro rfl
      exact absurd (hroot.symm.trans hpath.2.1) (by decide)
    exact runs_path (pre := []) hroot hpath hne hmore hroom h
  · exact runs_last_bit hmore hroom (fun cur nb hbit => .inl ⟨hleaf, hbit, rfl⟩) h

/-- Symbol by symbol, the codes give the symbols back. -/
theorem runs_symbols {code : Byte → List Bool} {xs : List Byte} (hcodes : ∀ a ∈ xs, PathCode s (code a) a)
    (hmore : j + (xs.flatMap code).length ≤ e) (hroom : s.outFifo.length + out.length + xs.length ≤ s.params.ofifoDepth)
    (h : DecodingAt s pad rest (xs.flatMap code ++ todo) out (walkPos p e j s.root) t) :
    ∃ u, Runs .decode t u ∧
      DecodingAt s pad rest todo (out ++ xs) (walkPos p e (j + (xs.flatMap code).length) s.root) u := by
  induction xs generalizing out j t with
  | nil =>
    rw [List.append_nil]
    exact ⟨t, .refl .., h⟩
  | cons a xs ih =>
    obtain ⟨hcode, hcodes⟩ := List.forall_mem_cons.mp hcodes
    rw [List.flatMap_cons, List.length_append] at hmore
    rw [List.length_cons] at hroom
    rw [List.flatMap_cons, List.append_assoc] at h
    obtain ⟨u, hrun, hu⟩ := runs_symbol hcode (by omega) (by omega) h
    obtain ⟨v, hrun', hv⟩ := ih hcodes (by omega) (by rw [List.length_append, List.length_singleton]; omega) hu
    refine ⟨v, hrun.trans hrun', ?_⟩
    rw [List.flatMap_cons, List.length_append, ← Nat.add_assoc]
    rwa [List.append_assoc] at hv

/-- The position among the padding bits with `k` to take, all so far 0. -/
def padPos (l : DecLocals) (k : Nat) (cur : Byte) (nb : Nat) : Pos := .decPad { l with cur := cur, nb := nb } k false

theorem takesByte_padPos (l : DecLocals) (k : Nat) : TakesByte (padPos l (k + 1)) := fun _ _ _ h =>
  exec_decode_of_pad_byte h rfl

/-- Zero padding bits are taken one by one (R292). -/
theorem runs_padding {l : DecLocals} {k : Nat} (h : DecodingAt s pad rest (List.replicate k false) out (padPos l k) t) :
    ∃ u, Runs .decode t u ∧ DecodingAt s pad rest [] out (padPos l 0) u := by
  induction k generalizing t with
  | zero => exact ⟨t, .refl .., h⟩
  | succ k ih =>
    rw [List.replicate_succ] at h
    obtain ⟨cur, nb, input, budget, c, hnb, hready, hbudget, hrun⟩ :=
      exists_bit_in_hand (takesByte_padPos l k) h (List.cons_ne_nil _ _)
    have hstep := exec_decode_of_pad_bit
      (s := decState s pad out input budget c (padPos l (k + 1) cur nb)) rfl hnb
    have hbit : cur.getLsbD (nb - 1) = false := hready.head hnb
    simp only [hbit, Bool.or_false] at hstep
    obtain ⟨u, hrun', hu⟩ := ih (t := decState s pad out input budget c (padPos l k cur (nb - 1)))
      ⟨cur, nb - 1, input, budget, c, hready.tail hnb, hbudget, rfl⟩
    exact ⟨u, hrun.trans (.head hstep hrun'), hu⟩

/-- With all bits used, the input is `rest` and the budget is used up. -/
theorem DecodingAt.of_nil (h : DecodingAt s pad rest [] out pos t) :
    ∃ cur c, t = decState s pad out rest 0 c (pos cur 0) := by
  obtain ⟨cur, nb, input, budget, c, hready, -, rfl⟩ := h
  have hlen := hready.length
  rw [List.length_nil] at hlen
  obtain rfl : nb = 0 := by omega
  obtain rfl : budget = 0 := by omega
  obtain rfl : input = rest := hready.input
  exact ⟨cur, c, rfl⟩

/-- The start, the header byte and its check lead to the walk, with all bits of the stream in the input. -/
theorem runs_decStart {n : Nat} {stream : List Bool} (hacc : s.accepted 0x07) (hvalid : s.treeValid = true) (hn : n ≤ 8)
    (hn' : n ≤ stream.length) (hbytes : stream.length % 8 = 0)
    (hfifo : s.inFifo = BitVec.ofNat 8 n :: packBits stream ++ rest) (hrem : s.inRemain.toNat = 1 + stream.length / 8) :
    ∃ u, Runs .decode s u ∧ DecodingAt s (BitVec.ofNat 8 n) rest stream []
      (walkPos (BitVec.ofNat 8 n) (stream.length - n) 0 s.root) u := by
  have hp : (BitVec.ofNat 8 n).toNat = n := by rw [BitVec.toNat_ofNat, Nat.mod_eq_of_lt (by omega)]
  have hlt := s.inRemain.isLt
  have hbudget : s.inRemain = BitVec.ofNat 32 (stream.length / 8 + 1) := by
    apply BitVec.eq_of_toNat_eq
    rw [BitVec.toNat_ofNat]
    omega
  have hbits : 8 * (s.inRemain.toNat - 1) = stream.length := by omega
  have hstart := decodeStart_of_tree hvalid ▸ exec_decode_of_start hacc
  have htake := (exec_of_inByte (exec_decode_of_decHeader
    (s := { s.movedTo 0x07 0 (.decHeader s.inRemain) with dcount := 0 }) rfl)).2.2 (BitVec.ofNat 8 n) (packBits stream ++ rest)
    (hbudget ▸ ofNat_succ_ne_zero (by omega)) hfifo
  have hcheck := exec_decode_of_decCheckPad
    (s := State.took { s.movedTo 0x07 0 (.decHeader s.inRemain) with dcount := 0 } (packBits stream ++ rest) 0x07 0
      (.decCheckPad s.inRemain (BitVec.ofNat 8 n))) rfl
  rw [hp, hbits, if_neg (by omega)] at hcheck
  have hremain : s.inRemain - 1 = BitVec.ofNat 32 (stream.length / 8) := by rw [hbudget, ofNat_succ_sub_one]
  refine ⟨_, .head hstart (.head htake (.single hcheck)), 0, 0, packBits stream ++ rest, stream.length / 8, 0 + 1,
    ⟨fun k hk => absurd hk (Nat.not_lt_zero k), rfl, by omega⟩, by omega, ?_⟩
  rw [decState, List.append_nil, ← hremain, walkPos, ← hbits]
  simp only [decStartLocals, hp]
  rfl

/-- The locals after the walk. -/
def walkedLocals (s : State) (p : Byte) (e : Nat) : DecLocals := { p := p, e := e, j := e, x := s.root, cur := 0, nb := 0 }

/-- After the last effective bit, with the walker at ROOT, the padding bits begin (R291, R292). -/
theorem runs_walk_end (h : DecodingAt s pad rest todo out (walkPos p e e s.root) t) :
    ∃ u, Runs .decode t u ∧ DecodingAt s pad rest todo out (padPos (walkedLocals s p e) p.toNat) u := by
  obtain ⟨cur, nb, input, budget, c, hready, hbudget, rfl⟩ := h
  have hend := exec_decode_of_walk_end (s := decState s pad out input budget c (walkPos p e e s.root cur nb)) rfl le_rfl rfl
  exact ⟨_, .single hend, cur, nb, input, budget, c, hready, hbudget, rfl⟩

/-- With all padding bits 0 and the count check met, DECODE ends (R294 to R296). -/
theorem runs_decEnd {l : DecLocals} (hcount : s.ctrl.cntchk = false ∨ s.symcnt = BitVec.ofNat 40 out.length)
    (h : DecodingAt s pad rest [] out (padPos l 0) t) :
    Runs .decode t (State.ended { s with
      inFifo := rest, inRemain := 0, pad := pad, dcount := BitVec.ofNat 40 out.length, outFifo := s.outFifo ++ out }) := by
  obtain ⟨cur, c, rfl⟩ := h.of_nil
  have hdone := exec_decode_of_decPad_zero (s := decState s pad out rest 0 c (padPos l 0 cur 0)) rfl
  have hcount' : ¬ (s.ctrl.cntchk = true ∧ BitVec.ofNat 40 out.length ≠ s.symcnt) := by
    rintro ⟨hchk, hne⟩
    rcases hcount with hoff | heq
    · exact absurd (hchk.symm.trans hoff) (by decide)
    · exact hne heq.symm
  rw [if_neg (by simp)] at hdone
  exact .single (hdone.trans (congrArg Host.Outcome.next (if_neg hcount')))

/-- Settles O60: the header, the symbols, the end of the walk, the padding bits, the checks. -/
theorem decodeReturnsTheEncodedSymbols : Obligations.DecodeReturnsTheEncodedSymbols := by
  intro s xs rest code n hacc hvalid hcode hn hbytes hfifo hrem hroom hcount
  have hcodes (a : Byte) (ha : a ∈ xs) : PathCode s (code a) a :=
    hcode.imp (fun ⟨hroot, hpath⟩ => ⟨hroot, hpath a ha⟩) (fun ⟨hleaf, hsym⟩ => ⟨hleaf, hsym a ha⟩)
  have hlength : (xs.flatMap code ++ List.replicate n false).length = (xs.flatMap code).length + n := by
    rw [List.length_append, List.length_replicate]
  have hp : (BitVec.ofNat 8 n).toNat = n := by rw [BitVec.toNat_ofNat, Nat.mod_eq_of_lt (by omega)]
  obtain ⟨t, hstart, ht⟩ := runs_decStart hacc hvalid hn (by omega) (by rwa [hlength]) hfifo (by rwa [hlength])
  rw [hlength, Nat.add_sub_cancel] at ht
  obtain ⟨u, hsymbols, hu⟩ := runs_symbols hcodes (Nat.zero_add _).le (by simpa using hroom) ht
  rw [Nat.zero_add, List.nil_append] at hu
  obtain ⟨v, hend, hv⟩ := runs_walk_end hu
  rw [hp] at hv
  obtain ⟨z, hpadding, hz⟩ := runs_padding hv
  exact (hstart.trans hsymbols).trans (hend.trans (hpadding.trans (runs_decEnd hcount hz)))

end Sys2Proof.Machine
end

section
/-! Everything a step of ENCODE or DECODE can do (`44_encoder.md` R260, `45_decoder.md` R284), said once. -/

namespace Sys2Proof.Machine

variable {i : Instr} {s t : State} {w : Word} {c : BitVec 32} {p : Pos} {b : Byte}

/-- An instruction leads from a state to one state. -/
theorem exec_next_unique {u : State} (ht : exec i s = .next t) (hu : exec i s = .next u) : t = u :=
  Host.Outcome.next.inj (ht.symm.trans hu)

/-- A step that is `InByte()` has failed, waited, or taken the oldest byte (R15). -/
theorem cases_of_inByte {next : Byte → Pos}
    (h : exec i s = .next ((inByte s { word := w, consumed := c, pos := p } next).getD s)) (ht : exec i s = .next t) :
    (s.inRemain = 0 ∧ t = s.failed 0x05 c) ∨ t = s ∨
      ∃ b rest, s.inRemain ≠ 0 ∧ s.inFifo = b :: rest ∧ t = s.took rest w c (next b) := by
  obtain ⟨hfails, hwaits, htakes⟩ := exec_of_inByte h
  by_cases hrem : s.inRemain = 0
  · exact .inl ⟨hrem, exec_next_unique ht (hfails hrem)⟩
  · cases hfifo : s.inFifo with
    | nil => exact .inr (.inl (exec_next_unique ht (hwaits hrem hfifo)))
    | cons b rest => exact .inr (.inr ⟨b, rest, hrem, rfl, exec_next_unique ht (htakes b rest hrem hfifo)⟩)

/-- A step that is `OutPush(b)` and moves on has waited or appended the byte (R16). -/
theorem cases_of_outPush {f : State → State} (h : exec i s = .next (((outPush s b).map f).getD s))
    (ht : exec i s = .next t) : t = s ∨ (s.room ∧ t = f { s with outFifo := s.outFifo ++ [b] }) := by
  obtain ⟨hpushes, hwaits⟩ := exec_of_outPush h
  by_cases hroom : s.room
  · exact .inr ⟨hroom, exec_next_unique ht (hpushes hroom)⟩
  · exact .inl (exec_next_unique ht (hwaits hroom))

/-- What a step of ENCODE leads to. -/
inductive EncodeEffect (s : State) : State → Prop where
  | wait : EncodeEffect s s
  | fail (e : BitVec 8) (info : Word) : EncodeEffect s (s.failed e info)
  | start : EncodeEffect s
      { s.movedTo 0x06 0 (.encHeader (encStartLocals s)) with pad := (encStartLocals s).p, dcount := 0 }
  | header {w : Word} {c : BitVec 32} {l : EncLocals} (hseq : s.atPos w c (.encHeader l)) (hroom : s.room) :
      EncodeEffect s { s.movedTo w c (.encSymbol l) with outFifo := s.outFifo ++ [l.p] }
  | symbol {w : Word} {c : BitVec 32} {l : EncLocals} {b : Byte} {rest : List Byte} (hseq : s.atPos w c (.encSymbol l))
      (hfifo : s.inFifo = b :: rest) : EncodeEffect s (s.took rest w c (.encLookup { l with left := l.left - 1 } b))
  | total {w : Word} {c : BitVec 32} {l : EncLocals} (hseq : s.atPos w c (.encSymbol l)) (htotal : l.nbits = s.tbits.toNat) :
      EncodeEffect s (s.movedTo w c (.encPad l l.p.toNat))
  | lookup {w : Word} {c : BitVec 32} {l : EncLocals} {sym : Byte} (hseq : s.atPos w c (.encLookup l sym)) (n : Nat) :
      EncodeEffect s (s.movedTo w c (.encBits l sym n))
  | counted {w : Word} {c : BitVec 32} {l : EncLocals} {sym : Byte} (hseq : s.atPos w c (.encBits l sym 0)) :
      EncodeEffect s { s.movedTo w c (.encSymbol l) with dcount := s.dcount + 1 }
  | bit {w : Word} {c : BitVec 32} {l : EncLocals} {p : Pos} {bit : Bool} {f : List Bool → Pos} (hseq : s.atPos w c p)
      (hat : AppendsAt s l p bit f) (hacc : l.acc.length ≠ 7) : EncodeEffect s (s.movedTo w c (f (l.acc ++ [bit])))
  | byte {w : Word} {c : BitVec 32} {l : EncLocals} {p : Pos} {bit : Bool} {f : List Bool → Pos} (hseq : s.atPos w c p)
      (hat : AppendsAt s l p bit f) (hacc : l.acc.length = 7) (hroom : s.room) :
      EncodeEffect s { s.movedTo w c (f []) with outFifo := s.outFifo ++ [packByte (l.acc ++ [bit])] }
  | done {w : Word} {c : BitVec 32} {l : EncLocals} (hseq : s.atPos w c (.encPad l 0)) : EncodeEffect s s.ended

theorem EncodeEffect.of_encodeStart (s : State) : EncodeEffect s (encodeStart s) := by
  cases hvalid : s.ctValid with
  | false => exact encodeStart_of_no_table hvalid ▸ .fail ..
  | true =>
    by_cases hlen : s.inRemain.setWidth 40 = s.symcnt
    · exact encodeStart_of_length hvalid hlen ▸ .start
    · exact encodeStart_of_wrong_length hvalid hlen ▸ .fail ..

theorem EncodeEffect.of_encSymbol {l : EncLocals} (hseq : s.atPos w c (.encSymbol l)) (h : exec .encode s = .next t) :
    EncodeEffect s t := by
  by_cases hleft : l.left = 0
  · by_cases htotal : l.nbits = s.tbits.toNat
    · exact exec_next_unique (exec_encode_of_total hseq hleft htotal) h ▸ .total hseq htotal
    · exact exec_next_unique (exec_encode_of_mismatch hseq hleft htotal) h ▸ .fail ..
  · rcases cases_of_inByte (exec_encode_of_symbol_left hseq hleft) h with ⟨-, rfl⟩ | rfl | ⟨b, rest, -, hfifo, rfl⟩
    · exact .fail ..
    · exact .wait
    · exact .symbol hseq hfifo

theorem EncodeEffect.of_encLookup {l : EncLocals} {sym : Byte} (hseq : s.atPos w c (.encLookup l sym))
    (h : exec .encode s = .next t) : EncodeEffect s t := by
  rw [exec_encode_of_encLookup hseq] at h
  split at h
  · exact Host.Outcome.next.inj h ▸ .fail ..
  · exact Host.Outcome.next.inj h ▸ .lookup hseq _

theorem EncodeEffect.of_appendsAt {l : EncLocals} {bit : Bool} {f : List Bool → Pos} (hseq : s.atPos w c p)
    (hat : AppendsAt s l p bit f) (h : exec .encode s = .next t) : EncodeEffect s t := by
  obtain ⟨hkept, hwaits, hpushed⟩ := exec_of_appendBit (exec_encode_of_appendsAt hat hseq)
  by_cases hacc : l.acc.length = 7
  · by_cases hroom : s.room
    · exact exec_next_unique (hpushed hacc hroom) h ▸ .byte hseq hat hacc hroom
    · exact exec_next_unique (hwaits hacc hroom) h ▸ .wait
  · exact exec_next_unique (hkept hacc) h ▸ .bit hseq hat hacc

/-- Every step of ENCODE has one of the effects: its positions have their equations, any other is its start. -/
theorem EncodeEffect.of_exec (h : exec .encode s = .next t) : EncodeEffect s t := by
  cases hseq : s.seq with
  | none =>
    have hstart : exec .encode s = .next (encodeStart s) := by
      simp only [exec, execEncode, encodeStep, hseq, Option.getD_some]
    exact exec_next_unique hstart h ▸ .of_encodeStart s
  | some q =>
    obtain ⟨w, c, p⟩ := q
    cases p with
    | encHeader l =>
      rcases cases_of_outPush (exec_encode_of_encHeader hseq) h with rfl | ⟨hroom, rfl⟩
      · exact .wait
      · exact .header hseq hroom
    | encSymbol l => exact .of_encSymbol hseq h
    | encLookup l sym => exact .of_encLookup hseq h
    | encBits l sym n =>
      cases n with
      | zero => exact exec_next_unique (exec_encode_of_encBits_zero hseq) h ▸ .counted hseq
      | succ k => exact .of_appendsAt hseq (.code sym k) h
    | encPad l k =>
      cases k with
      | zero => exact exec_next_unique (exec_encode_of_encPad_zero hseq) h ▸ .done hseq
      | succ k => exact .of_appendsAt hseq (.padding k) h
    | _ =>
      have hstart : exec .encode s = .next (encodeStart s) := by
        simp only [exec, execEncode, encodeStep, hseq, Option.getD_some]
      exact exec_next_unique hstart h ▸ .of_encodeStart s

/-- The positions of DECODE that take a byte, and where it goes. -/
inductive DecodeTakes : Pos → (Byte → Pos) → Prop where
  | header (len : Word) : DecodeTakes (.decHeader len) (.decCheckPad len)
  | walk {l : DecLocals} (hmore : l.j < l.e) (hnb : l.nb = 0) :
      DecodeTakes (.decWalk l) fun b => .decWalk { l with cur := b, nb := 8 }
  | padding {l : DecLocals} (k : Nat) (z : Bool) (hnb : l.nb = 0) :
      DecodeTakes (.decPad l (k + 1) z) fun b => .decPad { l with cur := b, nb := 8 } (k + 1) z

theorem exec_decode_of_takes {f : Byte → Pos} (htakes : DecodeTakes p f) (hseq : s.atPos w c p) :
    exec .decode s = .next ((inByte s { word := w, consumed := c, pos := p } f).getD s) := by
  cases htakes with
  | header len => exact exec_decode_of_decHeader hseq
  | walk hmore hnb => exact exec_decode_of_walk_byte hseq hmore hnb
  | padding k z hnb => exact exec_decode_of_pad_byte hseq hnb

/-- What a step of DECODE leads to. TRUNC comes of a byte to take and an empty budget alone. -/
inductive DecodeEffect (s : State) : State → Prop where
  | wait : DecodeEffect s s
  | fail {e : BitVec 8} (info : Word) (he : e ≠ 0x05) : DecodeEffect s (s.failed e info)
  | start : DecodeEffect s { s.movedTo 0x07 0 (.decHeader s.inRemain) with dcount := 0 }
  | trunc {w : Word} {c : BitVec 32} {p : Pos} {f : Byte → Pos} (hseq : s.atPos w c p) (htakes : DecodeTakes p f)
      (hrem : s.inRemain = 0) : DecodeEffect s (s.failed 0x05 c)
  | byte {w : Word} {c : BitVec 32} {p : Pos} {f : Byte → Pos} {b : Byte} {rest : List Byte} (hseq : s.atPos w c p)
      (htakes : DecodeTakes p f) (hrem : s.inRemain ≠ 0) (hfifo : s.inFifo = b :: rest) :
      DecodeEffect s (s.took rest w c (f b))
  | badPad {w : Word} {c : BitVec 32} {len : Word} {p : Byte} (hseq : s.atPos w c (.decCheckPad len p)) (info : Word) :
      DecodeEffect s (State.failed { s with pad := p } 0x0C info)
  | pad {w : Word} {c : BitVec 32} {len : Word} {p : Byte} (hseq : s.atPos w c (.decCheckPad len p))
      (hle : p.toNat ≤ 8 * (len.toNat - 1)) :
      DecodeEffect s { s.movedTo w c (.decWalk (decStartLocals s len p)) with pad := p }
  | emit {w : Word} {c : BitVec 32} {l : DecLocals} (hseq : s.atPos w c (.decWalk l)) (hmore : l.j < l.e) (hnb : l.nb ≠ 0)
      (hroom : s.room) (sym : Byte) :
      DecodeEffect s { s.movedTo w c (.decWalk { l with j := l.j + 1, x := s.root, nb := l.nb - 1 }) with
        outFifo := s.outFifo ++ [sym], dcount := s.dcount + 1 }
  | bit {w : Word} {c : BitVec 32} {l : DecLocals} (hseq : s.atPos w c (.decWalk l)) (hmore : l.j < l.e) (hnb : l.nb ≠ 0)
      (x : NodeIx) : DecodeEffect s (s.movedTo w c (.decWalk { l with j := l.j + 1, x := x, nb := l.nb - 1 }))
  | walked {w : Word} {c : BitVec 32} {l : DecLocals} (hseq : s.atPos w c (.decWalk l)) (hend : l.e ≤ l.j) :
      DecodeEffect s (s.movedTo w c (.decPad l l.p.toNat false))
  | padBit {w : Word} {c : BitVec 32} {l : DecLocals} {k : Nat} {z : Bool} (hseq : s.atPos w c (.decPad l (k + 1) z))
      (hnb : l.nb ≠ 0) (z' : Bool) : DecodeEffect s (s.movedTo w c (.decPad { l with nb := l.nb - 1 } k z'))
  | done {w : Word} {c : BitVec 32} {l : DecLocals} {z : Bool} (hseq : s.atPos w c (.decPad l 0 z)) : DecodeEffect s s.ended

theorem DecodeEffect.of_decodeStart (s : State) : DecodeEffect s (decodeStart s) := by
  cases hvalid : s.treeValid with
  | false => exact decodeStart_of_no_tree hvalid ▸ .fail 0 (by decide)
  | true => exact decodeStart_of_tree hvalid ▸ .start

theorem DecodeEffect.of_takes {f : Byte → Pos} (hseq : s.atPos w c p) (htakes : DecodeTakes p f)
    (h : exec .decode s = .next t) : DecodeEffect s t := by
  rcases cases_of_inByte (exec_decode_of_takes htakes hseq) h with ⟨hrem, rfl⟩ | rfl | ⟨b, rest, hrem, hfifo, rfl⟩
  · exact .trunc hseq htakes hrem
  · exact .wait
  · exact .byte hseq htakes hrem hfifo

theorem DecodeEffect.of_decCheckPad {len : Word} {pad : Byte} (hseq : s.atPos w c (.decCheckPad len pad))
    (h : exec .decode s = .next t) : DecodeEffect s t := by
  rw [exec_decode_of_decCheckPad hseq] at h
  split at h
  · exact Host.Outcome.next.inj h ▸ .badPad hseq _
  · next hgood => exact Host.Outcome.next.inj h ▸ .pad hseq (by omega)

theorem DecodeEffect.of_walkEmits {l : DecLocals} {sym : Byte} (hseq : s.atPos w c (.decWalk l)) (hmore : l.j < l.e)
    (hnb : l.nb ≠ 0) (hemits : WalkEmits s l sym) (h : exec .decode s = .next t) : DecodeEffect s t := by
  rcases cases_of_outPush (exec_decode_of_walkEmits hseq hmore hnb hemits) h with rfl | ⟨hroom, rfl⟩
  · exact .wait
  · exact .emit hseq hmore hnb hroom sym

theorem DecodeEffect.of_walkBit {l : DecLocals} (hseq : s.atPos w c (.decWalk l)) (hmore : l.j < l.e) (hnb : l.nb ≠ 0)
    (h : exec .decode s = .next t) : DecodeEffect s t := by
  cases hroot : (nodeAt s.arena s.root).leaf with
  | true =>
    cases hbit : l.cur.getLsbD (l.nb - 1) with
    | true =>
      exact exec_next_unique (exec_decode_of_badBit hseq hmore hnb hroot hbit) h ▸ .fail _ (by decide)
    | false => exact .of_walkEmits hseq hmore hnb (.inl ⟨hroot, hbit, rfl⟩) h
  | false =>
    cases hchild : (nodeAt s.arena (walkChild s l)).leaf with
    | true => exact .of_walkEmits hseq hmore hnb (.inr ⟨hroot, hchild, rfl⟩) h
    | false =>
      exact exec_next_unique (exec_decode_of_inner_bit hseq hmore hnb hroot hchild) h ▸
        .bit hseq hmore hnb _

theorem DecodeEffect.of_decWalk {l : DecLocals} (hseq : s.atPos w c (.decWalk l)) (h : exec .decode s = .next t) :
    DecodeEffect s t := by
  by_cases hmore : l.j < l.e
  · by_cases hnb : l.nb = 0
    · exact .of_takes hseq (.walk hmore hnb) h
    · exact .of_walkBit hseq hmore hnb h
  · have hend := not_lt.mp hmore
    by_cases hx : l.x = s.root
    · exact exec_next_unique (exec_decode_of_walk_end hseq hend hx) h ▸ .walked hseq hend
    · exact exec_next_unique (exec_decode_of_midTree hseq hend hx) h ▸ .fail _ (by decide)

theorem DecodeEffect.of_decPad {l : DecLocals} {k : Nat} {z : Bool} (hseq : s.atPos w c (.decPad l k z))
    (h : exec .decode s = .next t) : DecodeEffect s t := by
  cases k with
  | zero =>
    rw [exec_decode_of_decPad_zero hseq] at h
    split at h
    · exact Host.Outcome.next.inj h ▸ .fail _ (by decide)
    · split at h
      · exact Host.Outcome.next.inj h ▸ .fail _ (by decide)
      · exact Host.Outcome.next.inj h ▸ .done hseq
  | succ k =>
    by_cases hnb : l.nb = 0
    · exact .of_takes hseq (.padding k z hnb) h
    · exact exec_next_unique (exec_decode_of_pad_bit hseq hnb) h ▸ .padBit hseq hnb _

/-- Every step of DECODE has one of the effects: its positions have their equations, any other is its start. -/
theorem DecodeEffect.of_exec (h : exec .decode s = .next t) : DecodeEffect s t := by
  cases hseq : s.seq with
  | none =>
    have hstart : exec .decode s = .next (decodeStart s) := by
      simp only [exec, execDecode, decodeStep, hseq, Option.getD_some]
    exact exec_next_unique hstart h ▸ .of_decodeStart s
  | some q =>
    obtain ⟨w, c, p⟩ := q
    cases p with
    | decHeader len => exact .of_takes hseq (.header len) h
    | decCheckPad len p => exact .of_decCheckPad hseq h
    | decWalk l => exact .of_decWalk hseq h
    | decPad l k z => exact .of_decPad hseq h
    | _ =>
      have hstart : exec .decode s = .next (decodeStart s) := by
        simp only [exec, execDecode, decodeStep, hseq, Option.getD_some]
      exact exec_next_unique hstart h ▸ .of_decodeStart s

end Sys2Proof.Machine
end

section
/-! Everything a step of a command can do (`41_control_commands.md` R191 to R197, `42_tree_builder.md` R214,
`43_code_table.md` R232, `44_encoder.md` R251, R260, `45_decoder.md` R281, R284), said once. -/

namespace Sys2Proof.Machine

variable {i : Instr} {s t : State} {w : Word} {c : BitVec 32} {p : Pos}

/-- A step of command `i` goes on under word `w`: the word of `i`, or the one it runs under. -/
def GoesOn (i : Instr) (s : State) (w : Word) : Prop := decodeCmd w = i ∨ ∃ q, s.seq = some q ∧ q.word = w

theorem GoesOn.of_atPos (h : s.atPos w c p) : GoesOn i s w := .inr ⟨_, h, rfl⟩

/-- What a step of a command leads to: what it fails, ends or moves on with, by the commands that may. -/
inductive CmdEffect (s : State) : Instr → State → Prop where
  | wait {i : Instr} : CmdEffect s i s
  | fail {i : Instr} (e : BitVec 8) (info : Word) : CmdEffect s i (s.failed e info)
  | finish {i : Instr} : CmdEffect s i s.ended
  | move {i : Instr} {w : Word} (hw : GoesOn i s w) (c : BitVec 32) (p : Pos) : CmdEffect s i (s.movedTo w c p)
  | take {i : Instr} {w : Word} {b : Byte} {rest : List Byte} (hi : i = .hdrParse ∨ i = .encode ∨ i = .decode)
      (hfifo : s.inFifo = b :: rest) (hw : GoesOn i s w) (c : BitVec 32) (p : Pos) : CmdEffect s i (s.took rest w c p)
  | push {i : Instr} {w : Word} (hi : i = .hdrWrite ∨ i = .encode) (hroom : s.room) (hw : GoesOn i s w) (c : BitVec 32)
      (p : Pos) (b : Byte) : CmdEffect s i { s.movedTo w c p with outFifo := s.outFifo ++ [b] }
  | emit {w : Word} (hroom : s.room) (hw : GoesOn .decode s w) (c : BitVec 32) (p : Pos) (b : Byte) (n : BitVec 40) :
      CmdEffect s .decode { s.movedTo w c p with outFifo := s.outFifo ++ [b], dcount := n }
  | count {i : Instr} {w : Word} (hi : i = .encode ∨ i = .decode) (hw : GoesOn i s w) (c : BitVec 32) (p : Pos) (pad : Byte)
      (n : BitVec 40) : CmdEffect s i { s.movedTo w c p with pad := pad, dcount := n }
  | badPad (pad : Byte) (info : Word) : CmdEffect s .decode (State.failed { s with pad := pad } 0x0C info)
  | flushIn {w : Word} (hw : GoesOn .flush s w) (c : BitVec 32) (p : Pos) :
      CmdEffect s .flush { s.movedTo w c p with inFifo := [] }
  | flushOut {w : Word} (hw : GoesOn .flush s w) (c : BitVec 32) (p : Pos) :
      CmdEffect s .flush { s.movedTo w c p with outFifo := [] }
  | clear (ft : Vector Word 256) :
      CmdEffect s .ftClear (State.ended { s with ft := ft, treeValid := false, ctValid := false })
  | noBuild (e : BitVec 8) (info : Word) :
      CmdEffect s .build (State.failed { s with treeValid := false, ctValid := false } e info)
  | build : CmdEffect s .build (buildTree s).ended
  | gen (hvalid : s.treeValid = true) : CmdEffect s .gen (genCodes s).ended
  | parse {w : Word} (hw : GoesOn .hdrParse s w) (c : BitVec 32) (p : Pos) (ft : Vector Word 256) :
      CmdEffect s .hdrParse { s.movedTo w c p with ft := ft, treeValid := false, ctValid := false }
  | record {w : Word} (hw : GoesOn .hdrParse s w) (c : BitVec 32) (p : Pos) (ft : Vector Word 256) :
      CmdEffect s .hdrParse { s.movedTo w c p with ft := ft }

theorem EncodeEffect.cmdEffect (h : EncodeEffect s t) : CmdEffect s .encode t := by
  cases h with
  | wait => exact .wait
  | fail e info => exact .fail e info
  | start => exact .count (.inl rfl) (.inl rfl) ..
  | header hseq hroom => exact .push (.inr rfl) hroom (.of_atPos hseq) ..
  | symbol hseq hfifo => exact .take (.inr (.inl rfl)) hfifo (.of_atPos hseq) ..
  | total hseq htotal => exact .move (.of_atPos hseq) ..
  | lookup hseq n => exact .move (.of_atPos hseq) ..
  | counted hseq => exact .count (pad := s.pad) (.inl rfl) (.of_atPos hseq) ..
  | bit hseq hat hacc => exact .move (.of_atPos hseq) ..
  | byte hseq hat hacc hroom => exact .push (.inr rfl) hroom (.of_atPos hseq) ..
  | done hseq => exact .finish

theorem DecodeEffect.cmdEffect (h : DecodeEffect s t) : CmdEffect s .decode t := by
  cases h with
  | wait => exact .wait
  | fail info he => exact .fail _ info
  | start => exact .count (pad := s.pad) (.inr rfl) (.inl rfl) ..
  | trunc hseq htakes hrem => exact .fail ..
  | byte hseq htakes hrem hfifo => exact .take (.inr (.inr rfl)) hfifo (.of_atPos hseq) ..
  | badPad hseq info => exact .badPad ..
  | pad hseq hle => exact .count (n := s.dcount) (.inr rfl) (.of_atPos hseq) ..
  | emit hseq hmore hnb hroom sym => exact .emit hroom (.of_atPos hseq) ..
  | bit hseq hmore hnb x => exact .move (.of_atPos hseq) ..
  | walked hseq hend => exact .move (.of_atPos hseq) ..
  | padBit hseq hnb z' => exact .move (.of_atPos hseq) ..
  | done hseq => exact .finish

theorem CmdEffect.of_hdrWriteStart (s : State) : CmdEffect s .hdrWrite (hdrWriteStart s) := by
  unfold hdrWriteStart
  split
  · exact .fail ..
  · exact .move (w := 0x04) (.inl rfl) 0 _

theorem CmdEffect.of_hdrWrite (h : exec .hdrWrite s = .next t) : CmdEffect s .hdrWrite t := by
  cases hseq : s.seq with
  | none =>
    have hstart : exec .hdrWrite s = .next (hdrWriteStart s) := by
      simp only [exec, execHdrWrite, hdrWriteStep, hseq, Option.getD_some]
    exact exec_next_unique hstart h ▸ .of_hdrWriteStart s
  | some q =>
    obtain ⟨w, c, p⟩ := q
    cases p with
    | hdrWrite bytes =>
      cases bytes with
      | nil => exact exec_next_unique (exec_hdrWrite_of_nil hseq) h ▸ .finish
      | cons b rest =>
        rcases cases_of_outPush (exec_hdrWrite_of_cons hseq) h with rfl | ⟨hroom, rfl⟩
        · exact .wait
        · exact .push (.inl rfl) hroom (.of_atPos hseq) ..
    | _ =>
      have hstart : exec .hdrWrite s = .next (hdrWriteStart s) := by
        simp only [exec, execHdrWrite, hdrWriteStep, hseq, Option.getD_some]
      exact exec_next_unique hstart h ▸ .of_hdrWriteStart s

/-- From any position that is not one of parsing, HDR_PARSE starts (R281). -/
theorem exec_hdrParse_of_not_parsing (h : ∀ q, s.seq = some q → q.pos.parsing = false) :
    exec .hdrParse s = .next { s.movedTo 0x05 0 .parseHigh with
      ft := Vector.replicate 256 0#32, treeValid := false, ctValid := false } := by
  cases hseq : s.seq with
  | none =>
    simp only [exec, execHdrParse, hdrParseStep, hseq]
    rfl
  | some q =>
    obtain ⟨w, c, p⟩ := q
    have hpos : p.parsing = false := h _ hseq
    cases p with
    | parseHigh | parseLow | parseCheckN | parseSymbol | parseCount | parseCheckRecord => cases hpos
    | _ =>
      simp only [exec, execHdrParse, hdrParseStep, hseq]
      rfl

theorem CmdEffect.of_parseNext {next : Byte → Pos} (hnext : parseNext p = some next) (hseq : s.atPos w c p)
    (h : exec .hdrParse s = .next t) : CmdEffect s .hdrParse t := by
  rcases cases_of_inByte (exec_hdrParse_of_parseNext hnext hseq) h with ⟨-, rfl⟩ | rfl | ⟨b, rest, -, hfifo, rfl⟩
  · exact .fail ..
  · exact .wait
  · exact .take (.inl rfl) hfifo (.of_atPos hseq) ..

theorem CmdEffect.of_parsing (hseq : s.atPos w c p) (hpos : p.parsing = true) (h : exec .hdrParse s = .next t) :
    CmdEffect s .hdrParse t := by
  cases p with
  | parseHigh | parseLow | parseCount => exact .of_parseNext rfl hseq h
  | parseSymbol left =>
    cases left with
    | zero => exact exec_next_unique (exec_hdrParse_of_parseSymbol_zero hseq) h ▸ .finish
    | succ k => exact .of_parseNext rfl hseq h
  | parseCheckN n =>
    rw [exec_hdrParse_of_parseCheckN hseq] at h
    split at h
    · exact Host.Outcome.next.inj h ▸ .fail ..
    · exact Host.Outcome.next.inj h ▸ .move (.of_atPos hseq) ..
  | parseCheckRecord left sym v =>
    rw [exec_hdrParse_of_parseCheckRecord hseq] at h
    split at h
    · exact Host.Outcome.next.inj h ▸ .fail ..
    · split at h
      · exact Host.Outcome.next.inj h ▸ .fail ..
      · exact Host.Outcome.next.inj h ▸ .record (.of_atPos hseq) ..
  | _ => cases hpos

theorem CmdEffect.of_hdrParse (h : exec .hdrParse s = .next t) : CmdEffect s .hdrParse t := by
  by_cases hparsing : ∃ q, s.seq = some q ∧ q.pos.parsing = true
  · obtain ⟨⟨w, c, p⟩, hseq, hpos⟩ := hparsing
    exact .of_parsing hseq hpos h
  · have hstart := exec_hdrParse_of_not_parsing (s := s) fun q hq =>
      Bool.eq_false_iff.mpr fun hpos => hparsing ⟨q, hq, hpos⟩
    exact exec_next_unique hstart h ▸ .parse (.inl rfl) ..

theorem CmdEffect.of_flush : CmdEffect s .flush (flushStep s) := by
  cases hseq : s.seq with
  | none =>
    simp only [flushStep, hseq]
    exact .flushIn (.inl rfl) ..
  | some q =>
    obtain ⟨w, c, p⟩ := q
    cases p with
    | flushOut =>
      simp only [flushStep, hseq]
      exact .flushOut (.of_atPos hseq) ..
    | flushDone =>
      simp only [flushStep, hseq]
      exact .finish
    | _ =>
      simp only [flushStep, hseq]
      exact .flushIn (.inl rfl) ..

theorem CmdEffect.of_build (h : exec .build s = .next t) : CmdEffect s .build t := by
  by_cases hempty : presentCount s.ft = 0
  · exact exec_next_unique (exec_build_of_empty hempty) h ▸ .noBuild ..
  · exact exec_next_unique (exec_build_of_present (Nat.one_le_iff_ne_zero.mpr hempty)) h ▸ .build

theorem CmdEffect.of_gen (h : exec .gen s = .next t) : CmdEffect s .gen t := by
  cases hvalid : s.treeValid with
  | false => exact exec_next_unique (genNeedsAValidTree s hvalid) h ▸ .fail ..
  | true => exact exec_next_unique (exec_gen_of_valid hvalid) h ▸ .gen hvalid

/-- Every step of a command has one of the effects. -/
theorem CmdEffect.of_exec (hcmd : i.isCommand = true) (h : exec i s = .next t) : CmdEffect s i t := by
  cases i
  case nop => exact Host.Outcome.next.inj h ▸ .finish
  case ftClear => exact exec_next_unique (exec_ftClear s) h ▸ .clear _
  case build => exact .of_build h
  case gen => exact .of_gen h
  case hdrWrite => exact .of_hdrWrite h
  case hdrParse => exact .of_hdrParse h
  case encode => exact (EncodeEffect.of_exec h).cmdEffect
  case decode => exact (DecodeEffect.of_exec h).cmdEffect
  case flush => exact Host.Outcome.next.inj h ▸ .of_flush
  case illegalCmd w => exact Host.Outcome.next.inj h ▸ .fail 0x01 w
  all_goals cases hcmd

end Sys2Proof.Machine
end

section
/-! What the commands and the bus operations leave alone (`41_control_commands.md` R192, `20_memory.md` R89, R91). -/

namespace Sys2Proof.Machine

variable {i : Instr} {s t : State}

namespace CmdEffect

variable (h : CmdEffect s i t)
include h

theorem configuration : t.ctrl = s.ctrl ∧ t.ctSel = s.ctSel ∧ t.ndSel = s.ndSel ∧ t.wdrop = s.wdrop := by
  cases h
  all_goals exact ⟨rfl, rfl, rfl, rfl⟩

theorem model : t.rdata = s.rdata ∧ t.params = s.params ∧ t.rstN = s.rstN ∧ t.inputs = s.inputs ∧ t.sched = s.sched ∧
    t.draws = s.draws := by
  cases h
  all_goals exact ⟨rfl, rfl, rfl, rfl, rfl, rfl⟩

/-- The error registers change where the command fails, DONE where it ends (R194, R312). -/
theorem errors :
    (t.err = s.err ∧ t.errcode = s.errcode ∧ t.errinfo = s.errinfo ∧ (t.done = s.done ∨ (t.done = true ∧ t.seq = none))) ∨
      (t.err = true ∧ t.done = true ∧ t.seq = none) := by
  cases h with
  | fail | badPad | noBuild => exact .inr ⟨rfl, rfl, rfl⟩
  | finish | clear | build | gen => exact .inl ⟨rfl, rfl, rfl, .inr ⟨rfl, rfl⟩⟩
  | _ => exact .inl ⟨rfl, rfl, rfl, .inl rfl⟩

theorem validBits (hclear : i ≠ .ftClear) (hbuild : i ≠ .build) (hparse : i ≠ .hdrParse) :
    t.treeValid = s.treeValid ∧ (i ≠ .gen → t.ctValid = s.ctValid) := by
  cases h with
  | clear => exact absurd rfl hclear
  | noBuild | build => exact absurd rfl hbuild
  | parse => exact absurd rfl hparse
  | gen => exact ⟨rfl, fun hgen => absurd rfl hgen⟩
  | _ => exact ⟨rfl, fun _ => rfl⟩

theorem input (hparse : i ≠ .hdrParse) (hencode : i ≠ .encode) (hdecode : i ≠ .decode) :
    t.inRemain = s.inRemain ∧ (i ≠ .flush → t.inFifo = s.inFifo) := by
  cases h with
  | take hi => exact absurd hi (by simp [hparse, hencode, hdecode])
  | flushIn => exact ⟨rfl, fun hflush => absurd rfl hflush⟩
  | _ => exact ⟨rfl, fun _ => rfl⟩

theorem output (hwrite : i ≠ .hdrWrite) (hencode : i ≠ .encode) (hdecode : i ≠ .decode) (hflush : i ≠ .flush) :
    t.outFifo = s.outFifo := by
  cases h with
  | push hi => exact absurd hi (by simp [hwrite, hencode])
  | emit => exact absurd rfl hdecode
  | flushOut => exact absurd rfl hflush
  | _ => rfl

theorem table (hclear : i ≠ .ftClear) (hparse : i ≠ .hdrParse) : t.ft = s.ft := by
  cases h with
  | clear => exact absurd rfl hclear
  | parse | record => exact absurd rfl hparse
  | _ => rfl

theorem tree (hbuild : i ≠ .build) : t.arena = s.arena ∧ t.root = s.root ∧ t.nsym = s.nsym ∧ t.symcnt = s.symcnt := by
  cases h with
  | build => exact absurd rfl hbuild
  | _ => exact ⟨rfl, rfl, rfl, rfl⟩

theorem codes (hgen : i ≠ .gen) : t.ct = s.ct ∧ t.tbits = s.tbits ∧ t.maxlen = s.maxlen := by
  cases h with
  | gen => exact absurd rfl hgen
  | _ => exact ⟨rfl, rfl, rfl⟩

theorem counts (hencode : i ≠ .encode) (hdecode : i ≠ .decode) : t.pad = s.pad ∧ t.dcount = s.dcount := by
  cases h with
  | count hi => exact absurd hi (by simp [hencode, hdecode])
  | emit | badPad => exact absurd rfl hdecode
  | _ => exact ⟨rfl, rfl⟩

/-- A command keeps the input FIFO, or takes its oldest byte, or is FLUSH (R197). -/
theorem inFifo : t.inFifo = s.inFifo ∨ (t.inFifo = [] ∧ i = .flush) ∨
    ∃ b, s.inFifo = b :: t.inFifo ∧ (i = .hdrParse ∨ i = .encode ∨ i = .decode) := by
  cases h with
  | take hi hfifo => exact .inr (.inr ⟨_, hfifo, hi⟩)
  | flushIn => exact .inr (.inl ⟨rfl, rfl⟩)
  | _ => exact .inl rfl

/-- A command keeps the output FIFO, or appends a byte where there is room, or is FLUSH (R197). -/
theorem outFifo : t.outFifo = s.outFifo ∨ (t.outFifo = [] ∧ i = .flush) ∨
    ∃ b, s.room ∧ t.outFifo = s.outFifo ++ [b] ∧ (i = .hdrWrite ∨ i = .encode ∨ i = .decode) := by
  cases h with
  | push hi hroom => exact .inr (.inr ⟨_, hroom, rfl, hi.imp_right .inl⟩)
  | emit hroom => exact .inr (.inr ⟨_, hroom, rfl, .inr (.inr rfl)⟩)
  | flushOut => exact .inr (.inl ⟨rfl, rfl⟩)
  | _ => exact .inl rfl

end CmdEffect

/-- A bus operation that is no CTRL write keeps CTRL (R153). -/
theorem BusEffect.ctrl (h : BusEffect s i t) (hctrl : ∀ d, i ≠ .wrCtrl d) : t.ctrl = s.ctrl := by
  cases h
  case configure d _ _ | reset d _ => exact absurd rfl (hctrl d)
  all_goals rfl

/-- A bus operation keeps the input FIFO, or appends the byte of an IN_DATA write where there is room, or is a soft reset. -/
theorem BusEffect.inFifo (h : BusEffect s i t) : t.inFifo = s.inFifo ∨
    (t.inFifo = [] ∧ ∃ d : Word, i = .wrCtrl d ∧ d.getLsbD 0 = true) ∨
      ∃ d : Word, s.inFifo.length ≠ s.params.ififoDepth ∧ t.inFifo = s.inFifo ++ [d.extractLsb' 0 8] ∧ i = .wrInData d := by
  cases h
  case reset d hsrst => exact .inr (.inl ⟨rfl, d, rfl, hsrst⟩)
  case push d hroom => exact .inr (.inr ⟨d, hroom, rfl, rfl⟩)
  all_goals exact .inl rfl

/-- A bus operation keeps the output FIFO, or takes its oldest byte by an OUT_DATA read, or is a soft reset. -/
theorem BusEffect.outFifo (h : BusEffect s i t) : t.outFifo = s.outFifo ∨
    (t.outFifo = [] ∧ ∃ d : Word, i = .wrCtrl d ∧ d.getLsbD 0 = true) ∨ ∃ b, s.outFifo = b :: t.outFifo ∧ i = .rdOutData := by
  cases h
  case reset d hsrst => exact .inr (.inl ⟨rfl, d, rfl, hsrst⟩)
  case pop b rest v hfifo => exact .inr (.inr ⟨b, hfifo, rfl⟩)
  all_goals exact .inl rfl

/-- Settles O33: what each effect of a command leaves alone; only a CTRL write's effect changes CTRL. -/
theorem commandsChangeOnlyTheirState : Obligations.CommandsChangeOnlyTheirState := by
  refine ⟨fun i s t hcmd h => ?command, fun i s t h hctrl => ?ctrl⟩
  case command =>
    have heffect := CmdEffect.of_exec hcmd h
    obtain ⟨hctrl, hctSel, hndSel, hwdrop⟩ := heffect.configuration
    obtain ⟨hrdata, hparams, hrst, hinputs, hsched, hdraws⟩ := heffect.model
    exact ⟨hctrl, hctSel, hndSel, hwdrop, hrdata, hparams, hrst, hinputs, hsched, hdraws, heffect.errors, heffect.validBits,
      heffect.input, heffect.output, heffect.table, heffect.tree, heffect.codes, heffect.counts⟩
  case ctrl =>
    cases hcmd : i.isCommand with
    | true => exact (CmdEffect.of_exec hcmd h).configuration.1
    | false => exact (BusEffect.of_exec hcmd h).ctrl hctrl

/-- Settles O34: the FIFOs after each effect. -/
theorem fifosKeepTheirOrder : Obligations.FifosKeepTheirOrder := by
  intro i s t h
  cases hcmd : i.isCommand with
  | true =>
    have heffect := CmdEffect.of_exec hcmd h
    refine ⟨?_, ?_⟩
    · rcases heffect.inFifo with hkept | ⟨hempty, hflush⟩ | htaken
      · exact .inl hkept
      · exact .inr (.inl ⟨hempty, .inl hflush⟩)
      · exact .inr (.inr (.inl htaken))
    · rcases heffect.outFifo with hkept | ⟨hempty, hflush⟩ | ⟨b, -, hpushed, hi⟩
      · exact .inl hkept
      · exact .inr (.inl ⟨hempty, .inl hflush⟩)
      · exact .inr (.inr (.inr ⟨b, hpushed, hi⟩))
  | false =>
    have heffect := BusEffect.of_exec hcmd h
    refine ⟨?_, ?_⟩
    · rcases heffect.inFifo with hkept | ⟨hempty, hreset⟩ | ⟨d, -, hpushed, hi⟩
      · exact .inl hkept
      · exact .inr (.inl ⟨hempty, .inr hreset⟩)
      · exact .inr (.inr (.inr ⟨_, hpushed, d, hi, rfl⟩))
    · rcases heffect.outFifo with hkept | ⟨hempty, hreset⟩ | htaken
      · exact .inl hkept
      · exact .inr (.inl ⟨hempty, .inr hreset⟩)
      · exact .inr (.inr (.inl htaken))

end Sys2Proof.Machine
end

section
/-! What every step keeps: the bounds and flags, and the coherence of the tables (`10_state.md` R27 to R32, R53, R54,
`20_memory.md` R92). -/

namespace Sys2Proof.Machine

variable {i : Instr} {s t : State}

/-- A command goes on under a word of its own. -/
theorem GoesOn.decodes {w : Word} (h : GoesOn i s w) (hruns : ∀ q, s.seq = some q → decodeCmd q.word = i) :
    decodeCmd w = i := by
  rcases h with hw | ⟨q, hseq, rfl⟩
  · exact hw
  · exact hruns q hseq

/-- A running command goes on, if at all, as itself. -/
theorem CmdEffect.seq (h : CmdEffect s i t) (hruns : ∀ q, s.seq = some q → decodeCmd q.word = i) (q : Seq)
    (hq : t.seq = some q) : decodeCmd q.word = i := by
  cases h with
  | wait => exact hruns q hq
  | fail | finish | badPad | clear | noBuild | build | gen => cases hq
  | move hw | take _ _ hw | push _ _ hw | emit _ hw | count _ hw | flushIn hw | flushOut hw | parse hw | record hw =>
    exact Option.some.inj hq ▸ hw.decodes hruns

/-- A bus operation leaves the HCE idle or at an accepted command's start, or keeps the sequencer and what the streams of
ENCODE and DECODE depend on. -/
theorem BusEffect.seq (h : BusEffect s i t) : t.seq = none ∨ (∃ w, t.accepted w) ∨
    (t.seq = s.seq ∧ t.ctrl = s.ctrl ∧ t.tbits = s.tbits ∧ t.inRemain = s.inRemain) := by
  cases h with
  | configure d hsrst hidle | budget d hidle => exact .inl (busy_eq_false_iff.mp hidle)
  | reset => exact .inl (softReset_seq s)
  | accept w => exact .inr (.inl ⟨w, rfl⟩)
  | illegal => exact .inl rfl
  | _ => exact .inr (.inr ⟨rfl, rfl, rfl, rfl⟩)

/-! ### Bounds and flags -/

/-- What `softReset` and `hardReset` leave has the bounds and flags. -/
theorem State.Inv.of_idle (hdepths : 1 ≤ t.params.ififoDepth ∧ 1 ≤ t.params.ofifoDepth) (hin : t.inFifo = []) (hout : t.outFifo = [])
    (hct : t.ctValid = false) (hcode : t.errcode = 0) (hinfo : t.errinfo = 0) (hseq : t.seq = none) : t.Inv where
  depths := hdepths
  inBound := by simp [hin]
  outBound := by simp [hout]
  validOrder := by simp [hct]
  errorClear := fun _ => ⟨hcode, hinfo⟩
  busyClear := by simp [hseq]
  resetIdle := fun _ => hseq

theorem State.Inv.softReset {ctrl : Ctrl} (h : s.Inv) : State.Inv { Machine.softReset s with ctrl := ctrl } := by
  obtain ⟨hparams, -⟩ := softReset_frame s
  refine State.Inv.of_idle ?_ rfl rfl rfl rfl rfl (softReset_seq s)
  rw [show ({ Machine.softReset s with ctrl := ctrl } : State).params = s.params from hparams]
  exact h.depths

theorem State.Inv.setResetPin (level : Bool) (h : s.Inv) : (Machine.setResetPin s level).Inv := by
  cases level with
  | true => exact { h with resetIdle := nofun }
  | false =>
    obtain ⟨hparams, -⟩ := softReset_frame s
    refine State.Inv.of_idle ?_ rfl rfl rfl rfl rfl (softReset_seq s)
    rw [show (Machine.setResetPin s false).params = s.params from hparams]
    exact h.depths

theorem State.Inv.acknowledge (d : Word) (h : s.Inv) : (Machine.acknowledge s d).Inv where
  depths := h.depths
  inBound := h.inBound
  outBound := h.outBound
  validOrder := h.validOrder
  errorClear := by
    cases hclear : ackErrClr d with
    | true => simp [Machine.acknowledge, hclear]
    | false => simpa [Machine.acknowledge, hclear] using h.errorClear
  busyClear := fun hbusy => by
    obtain ⟨herr, hdone⟩ := h.busyClear hbusy
    simp [Machine.acknowledge, herr, hdone]
  resetIdle := h.resetIdle

theorem State.Inv.of_busEffect (h : s.Inv) (hrst : s.rstN = true) (heffect : BusEffect s i t) : t.Inv := by
  cases heffect with
  | port | drop | configure | budget | codeSel | nodeSel => exact { h with }
  | pop v hfifo =>
    have hbound := h.outBound
    rw [hfifo] at hbound
    exact { h with outBound := (Nat.le_succ _).trans hbound }
  | reset => exact h.softReset
  | accept w hidle herr =>
    exact { h with busyClear := fun _ => ⟨herr, rfl⟩, resetIdle := fun hlow => absurd (hrst.symm.trans hlow) (by decide) }
  | illegal w => exact { h with errorClear := nofun, busyClear := nofun, resetIdle := fun _ => rfl }
  | acknowledge d => exact h.acknowledge d
  | push d hroom =>
    have hbound := h.inBound
    have hpushed : s.inFifo.length + 1 ≤ s.params.ififoDepth := by omega
    exact { h with inBound := (List.length_append ..).trans_le hpushed }
  | count => exact { h with validOrder := nofun }

theorem CmdEffect.validOrder (h : CmdEffect s i t) (hs : s.ctValid = true → s.treeValid = true) :
    t.ctValid = true → t.treeValid = true := by
  cases h with
  | clear | noBuild | build | parse => exact nofun
  | gen hvalid => exact fun _ => hvalid
  | _ => exact hs

theorem CmdEffect.inFifo_length_le (h : CmdEffect s i t) : t.inFifo.length ≤ s.inFifo.length := by
  rcases h.inFifo with hkept | ⟨hempty, -⟩ | ⟨b, htaken, -⟩
  · rw [hkept]
  · simp [hempty]
  · simp [htaken]

theorem CmdEffect.outFifo_length_le (h : CmdEffect s i t) (hs : s.outFifo.length ≤ s.params.ofifoDepth) :
    t.outFifo.length ≤ s.params.ofifoDepth := by
  rcases h.outFifo with hkept | ⟨hempty, -⟩ | ⟨b, hroom, hpushed, -⟩
  · rwa [hkept]
  · simp [hempty]
  · rw [hpushed, List.length_append, List.length_singleton]
    exact hroom

theorem State.Inv.of_cmdEffect (h : s.Inv) (hrst : s.rstN = true) (hbusy : s.busy = true) (heffect : CmdEffect s i t) : t.Inv := by
  obtain ⟨-, hparams, hrst', -⟩ := heffect.model
  obtain ⟨herr, hdone⟩ := h.busyClear hbusy
  have hflags : (t.err = false → t.errcode = 0 ∧ t.errinfo = 0) ∧ (t.busy = true → t.err = false ∧ t.done = false) := by
    rcases heffect.errors with ⟨herr', hcode, hinfo, hdone'⟩ | ⟨herr', -, hidle⟩
    · rw [herr', hcode, hinfo]
      refine ⟨h.errorClear, fun hbusy' => ⟨herr, ?_⟩⟩
      rcases hdone' with hkept | ⟨-, hidle⟩
      · exact hkept.trans hdone
      · exact absurd hbusy' (by simp [hidle])
    · exact ⟨fun hclear => absurd (herr'.symm.trans hclear) (by decide), fun hbusy' => absurd hbusy' (by simp [hidle])⟩
  obtain ⟨herrorClear, hbusyClear⟩ := hflags
  exact {
    depths := hparams ▸ h.depths
    inBound := hparams ▸ heffect.inFifo_length_le.trans h.inBound
    outBound := hparams ▸ heffect.outFifo_length_le h.outBound
    validOrder := heffect.validOrder h.validOrder
    errorClear := herrorClear
    busyClear := hbusyClear
    resetIdle := fun hlow => absurd (hrst'.symm.trans hlow) (by simp [hrst]) }

/-- Settles O10: the bus operations, the commands and the pin keep the bounds and flags. -/
theorem stepKeepsBoundsAndFlags : Obligations.StepKeepsBoundsAndFlags :=
  step_keeps (fun _ _ _ h => { h with })
    (fun _ _ _ hbus hrst h hexec => h.of_busEffect hrst (.of_exec hbus hexec))
    (fun _ _ _ hseq hrst h hexec =>
      h.of_cmdEffect hrst (busy_of_seq_some hseq) (.of_exec (decodeCmd_isCommand _) hexec))
    (fun _ level h => h.setResetPin level)

/-! ### Tables -/

/-- The states agree on the tables, the results read from them, and the valid bits. -/
structure SameTables (s t : State) : Prop where
  treeValid : t.treeValid = s.treeValid
  ctValid : t.ctValid = s.ctValid
  ft : t.ft = s.ft
  arena : t.arena = s.arena
  root : t.root = s.root
  nsym : t.nsym = s.nsym
  symcnt : t.symcnt = s.symcnt
  ct : t.ct = s.ct
  tbits : t.tbits = s.tbits
  maxlen : t.maxlen = s.maxlen

theorem State.TreeOfFt.of_sameTables (h : s.TreeOfFt) (hsame : SameTables s t) : t.TreeOfFt where
  present := hsame.ft ▸ h.present
  root := by rw [hsame.root, hsame.ft, h.root]
  nsym := by rw [hsame.nsym, hsame.ft, h.nsym]
  nodes := by
    rw [hsame.root, hsame.ft, hsame.arena]
    exact h.nodes
  symcnt := by rw [hsame.symcnt, hsame.arena, hsame.root, h.symcnt]

theorem State.CodesOfTree.of_sameTables (h : s.CodesOfTree) (hsame : SameTables s t) : t.CodesOfTree where
  codes := by rw [hsame.ct, hsame.arena, hsame.root, h.codes]
  tbits := by rw [hsame.tbits, hsame.arena, hsame.ct, hsame.nsym, h.tbits]
  maxlen := by rw [hsame.maxlen, hsame.ct, h.maxlen]

theorem State.Coherent.of_sameTables (h : s.Coherent) (hsame : SameTables s t)
    (hparsing : ∀ q, t.seq = some q → decodeCmd q.word = .hdrParse → q.pos.parsing = true → s.treeValid = false) :
    t.Coherent where
  validOrder := by
    rw [hsame.ctValid, hsame.treeValid]
    exact h.validOrder
  tree := fun hvalid => State.TreeOfFt.of_sameTables (h.tree (hsame.treeValid ▸ hvalid)) hsame
  codes := fun hvalid => State.CodesOfTree.of_sameTables (h.codes (hsame.ctValid ▸ hvalid)) hsame
  parsing := by
    rw [hsame.treeValid]
    exact hparsing

/-- Without valid bits there is nothing to cohere. -/
theorem State.Coherent.of_invalid (htree : t.treeValid = false) (hct : t.ctValid = false) : t.Coherent where
  validOrder := by simp [hct]
  tree := by simp [htree]
  codes := by simp [hct]
  parsing := fun _ _ _ _ => htree

theorem State.Coherent.ctValid_false (h : s.Coherent) (htree : s.treeValid = false) : s.ctValid = false :=
  Bool.eq_false_iff.mpr fun hct => absurd (htree.symm.trans (h.validOrder hct)) (by decide)

theorem State.Coherent.of_busEffect (h : s.Coherent) (heffect : BusEffect s i t) : t.Coherent := by
  cases heffect with
  | reset | count => exact .of_invalid rfl rfl
  | accept w =>
    refine h.of_sameTables ⟨rfl, rfl, rfl, rfl, rfl, rfl, rfl, rfl, rfl, rfl⟩ fun q hq _ hpos => ?_
    cases Option.some.inj hq
    cases hpos
  | illegal => exact h.of_sameTables ⟨rfl, rfl, rfl, rfl, rfl, rfl, rfl, rfl, rfl, rfl⟩ nofun
  | _ => exact h.of_sameTables ⟨rfl, rfl, rfl, rfl, rfl, rfl, rfl, rfl, rfl, rfl⟩ h.parsing

/-- HDR_PARSE clears the valid bits at its start, and finds them clear past it (R281). -/
theorem State.Coherent.of_hdrParse (h : s.Coherent) (hruns : ∀ q, s.seq = some q → decodeCmd q.word = .hdrParse)
    (hexec : exec .hdrParse s = .next t) : t.Coherent := by
  by_cases hparsing : ∃ q, s.seq = some q ∧ q.pos.parsing = true
  · obtain ⟨q, hseq, hpos⟩ := hparsing
    have htree := h.parsing q hseq (hruns q hseq) hpos
    have hct := h.ctValid_false htree
    cases CmdEffect.of_hdrParse hexec with
    | parse => exact .of_invalid rfl rfl
    | _ => exact .of_invalid htree hct
  · have hstart := exec_hdrParse_of_not_parsing (s := s) fun q hq =>
      Bool.eq_false_iff.mpr fun hpos => hparsing ⟨q, hq, hpos⟩
    exact exec_next_unique hstart hexec ▸ .of_invalid rfl rfl

theorem State.Coherent.of_build (hexec : exec .build s = .next t) : t.Coherent := by
  by_cases hempty : presentCount s.ft = 0
  · exact exec_next_unique (exec_build_of_empty hempty) hexec ▸ .of_invalid rfl rfl
  · have hpresent := Nat.one_le_iff_ne_zero.mpr hempty
    obtain rfl := exec_next_unique (exec_build_of_present hpresent) hexec
    exact { validOrder := nofun, tree := fun _ => buildTree_ended_treeOfFt hpresent, codes := nofun, parsing := nofun }

theorem State.Coherent.of_gen (h : s.Coherent) (hexec : exec .gen s = .next t) : t.Coherent := by
  cases hvalid : s.treeValid with
  | false =>
    have hct := h.ctValid_false hvalid
    exact exec_next_unique (genNeedsAValidTree s hvalid) hexec ▸ .of_invalid hvalid hct
  | true =>
    obtain rfl := exec_next_unique (exec_gen_of_valid hvalid) hexec
    obtain ⟨hpresent, hroot, hnsym, hnodes, hsymcnt⟩ := h.tree hvalid
    exact {
      validOrder := fun _ => hvalid
      tree := fun _ => ⟨hpresent, hroot, hnsym, hnodes, hsymcnt⟩
      codes := fun _ => ⟨rfl, rfl, rfl⟩
      parsing := nofun }

theorem State.Coherent.of_cmd (h : s.Coherent) (hcmd : i.isCommand = true)
    (hruns : ∀ q, s.seq = some q → decodeCmd q.word = i) (hexec : exec i s = .next t) : t.Coherent := by
  by_cases hparse : i = .hdrParse
  · subst hparse
    exact h.of_hdrParse hruns hexec
  by_cases hclear : i = .ftClear
  · subst hclear
    exact exec_next_unique (exec_ftClear s) hexec ▸ .of_invalid rfl rfl
  by_cases hbuild : i = .build
  · subst hbuild
    exact .of_build hexec
  by_cases hgen : i = .gen
  · subst hgen
    exact h.of_gen hexec
  have heffect := CmdEffect.of_exec hcmd hexec
  obtain ⟨htree, hct⟩ := heffect.validBits hclear hbuild hparse
  obtain ⟨harena, hroot, hnsym, hsymcnt⟩ := heffect.tree hbuild
  obtain ⟨hcodes, htbits, hmaxlen⟩ := heffect.codes hgen
  refine h.of_sameTables
    ⟨htree, hct hgen, heffect.table hclear hparse, harena, hroot, hnsym, hsymcnt, hcodes, htbits, hmaxlen⟩ fun q hq hw _ => ?_
  exact absurd ((heffect.seq hruns q hq).symm.trans hw) hparse

theorem State.Coherent.setResetPin (level : Bool) (h : s.Coherent) : (Machine.setResetPin s level).Coherent := by
  cases level with
  | true => exact h.of_sameTables ⟨rfl, rfl, rfl, rfl, rfl, rfl, rfl, rfl, rfl, rfl⟩ h.parsing
  | false => exact .of_invalid rfl rfl

/-- Settles O11: the bus operations, the commands and the pin keep the tables coherent. -/
theorem stepKeepsTablesCoherent : Obligations.StepKeepsTablesCoherent :=
  step_keeps (fun _ _ _ h => h.of_sameTables ⟨rfl, rfl, rfl, rfl, rfl, rfl, rfl, rfl, rfl, rfl⟩ h.parsing)
    (fun _ _ _ hbus _ h hexec => h.of_busEffect (.of_exec hbus hexec))
    (fun _ _ _ hseq _ h hexec =>
      h.of_cmd (decodeCmd_isCommand _) (fun _ hq => congrArg (decodeCmd ·.word) (Option.some.inj (hq.symm.trans hseq))) hexec)
    (fun _ level h => h.setResetPin level)

end Sys2Proof.Machine
end

section
/-! What every step keeps of the running streams: ENCODE's accumulator (`44_encoder.md` R261 to R263) and DECODE's budget
(`45_decoder.md` R286, R288, R293). -/

namespace Sys2Proof.Machine

variable {s t : State}

/-- A property of the sequencer, CTRL, TBITS and IN_REMAIN that holds while nothing runs and at a command's start is kept by
every step if the commands' steps keep it. -/
theorem step_keeps_of_stream {P : State → Prop} (hidle : ∀ t, t.seq = none → P t) (hstart : ∀ t w, t.accepted w → P t)
    (hsame : ∀ s t, P s → t.seq = s.seq → t.ctrl = s.ctrl → t.tbits = s.tbits → t.inRemain = s.inRemain → P t)
    (hcmd : ∀ q s t, s.seq = some q → P s → exec (decodeCmd q.word) s = .next t → P t) (s t : State) (hs : P s)
    (h : step s = .next t) : P t := by
  refine step_keeps (fun s _ _ hs => hsame s _ hs rfl rfl rfl rfl) (fun i s t hbus _ hs hexec => ?bus)
    (fun q s t hseq _ => hcmd q s t hseq) (fun s level hs => ?pin) s t hs h
  case bus =>
    rcases (BusEffect.of_exec hbus hexec).seq with hnone | ⟨w, hacc⟩ | ⟨hseq, hctrl, htbits, hrem⟩
    · exact hidle t hnone
    · exact hstart t w hacc
    · exact hsame s t hs hseq hctrl htbits hrem
  case pin =>
    cases level with
    | true => exact hsame s _ hs rfl rfl rfl rfl
    | false => exact hidle _ (softReset_seq s)

/-- The step of a running command that is not `i` leaves no `i` running. -/
theorem decodeCmd_ne_of_exec {i : Instr} {q q' : Seq} (hseq : s.seq = some q) (hi : decodeCmd q.word ≠ i)
    (hexec : exec (decodeCmd q.word) s = .next t) (hq' : t.seq = some q') : decodeCmd q'.word ≠ i := by
  have heffect := CmdEffect.of_exec (decodeCmd_isCommand _) hexec
  have hruns (r : Seq) (hr : s.seq = some r) : decodeCmd r.word = decodeCmd q.word := by
    rw [Option.some.inj (hr.symm.trans hseq)]
  rw [heffect.seq hruns q' hq']
  exact hi

/-! ### ENCODE -/

/-- The padding count completes the byte that the bits of TBITS leave open (R261, R263). -/
theorem aligned_padding {l : EncLocals} (h : l.aligned s) (htotal : l.nbits = s.tbits.toNat) :
    l.acc.length < 8 ∧ (l.acc.length + l.p.toNat) % 8 = 0 := by
  obtain ⟨hacc, hp⟩ := h
  obtain ⟨hpad, -⟩ := padCount_spec s.ctrl.padmode s.tbits.toNat
  omega

theorem State.EncoderAligned.of_encodeEffect (h : s.EncoderAligned)
    (hruns : ∀ q, s.seq = some q → decodeCmd q.word = .encode) (heffect : EncodeEffect s t) : t.EncoderAligned := by
  intro q hq hw
  cases heffect with
  | wait => exact h q hq hw
  | fail | done => cases hq
  | start =>
    cases hq
    exact ⟨rfl, ofNat_padCount_toNat ..⟩
  | header hseq | symbol hseq | lookup hseq | counted hseq =>
    cases hq
    exact h _ hseq (hruns _ hseq)
  | total hseq htotal =>
    cases hq
    exact aligned_padding (h _ hseq (hruns _ hseq)) htotal
  | bit hseq hat hacc =>
    cases hq
    have hpos := h _ hseq (hruns _ hseq)
    cases hat with
    | code sym k =>
      obtain ⟨hlen, hp⟩ := hpos
      refine ⟨?_, hp⟩
      dsimp only
      rw [List.length_append, List.length_singleton]
      omega
    | padding k =>
      obtain ⟨hlt, hmod⟩ := hpos
      refine ⟨?_, ?_⟩ <;> rw [List.length_append, List.length_singleton] <;> omega
  | byte hseq hat hacc =>
    cases hq
    have hpos := h _ hseq (hruns _ hseq)
    cases hat with
    | code sym k =>
      obtain ⟨hlen, hp⟩ := hpos
      refine ⟨?_, hp⟩
      dsimp only
      rw [List.length_nil]
      omega
    | padding k =>
      obtain ⟨hlt, hmod⟩ := hpos
      refine ⟨?_, ?_⟩ <;> rw [List.length_nil] <;> omega

theorem State.EncoderAligned.of_cmd {q : Seq} (h : s.EncoderAligned) (hseq : s.seq = some q)
    (hexec : exec (decodeCmd q.word) s = .next t) : t.EncoderAligned := by
  by_cases hencode : decodeCmd q.word = .encode
  · refine h.of_encodeEffect (fun r hr => ?_) (.of_exec (hencode ▸ hexec))
    rw [Option.some.inj (hr.symm.trans hseq), hencode]
  · exact fun q' hq' hw => absurd hw (decodeCmd_ne_of_exec hseq hencode hexec hq')

/-- Settles O12: the steps of ENCODE keep its accumulator aligned, and no other step touches it. -/
theorem stepKeepsEncoderAligned : Obligations.StepKeepsEncoderAligned := by
  refine step_keeps_of_stream (fun t hnone q hq => absurd (hnone.symm.trans hq) nofun) (fun t w hacc q hq _ => ?start)
    (fun s t hs hseq hctrl htbits _ q hq hw => ?same) fun q s t hseq hs hexec => hs.of_cmd hseq hexec
  case start =>
    obtain rfl := Option.some.inj (hacc.symm.trans hq)
    trivial
  case same =>
    have hpos := hs q (hseq ▸ hq) hw
    unfold EncLocals.aligned at hpos ⊢
    rw [hctrl, htbits]
    exact hpos

/-- Settles O54: only the last padding position ends ENCODE with success, and there no bit is left. -/
theorem encodeEndsByteAligned : Obligations.EncodeEndsByteAligned := by
  intro s t q h hq hw herr hexec hend herr'
  cases EncodeEffect.of_exec hexec with
  | wait => exact absurd (hend.symm.trans hq) nofun
  | fail => cases herr'
  | done hseq =>
    obtain rfl := Option.some.inj (hseq.symm.trans hq)
    obtain ⟨hlt, hmod⟩ := h _ hseq hw
    exact ⟨_, rfl, List.length_eq_zero_iff.mp (by omega)⟩
  | _ => cases hend

/-! ### DECODE -/

theorem toNat_sub_one_add_one {r : Word} (h : r ≠ 0) : (r - 1).toNat + 1 = r.toNat := by
  have hpos : r.toNat ≠ 0 := fun hzero => h (BitVec.eq_of_toNat_eq hzero)
  have hlt := r.isLt
  rw [BitVec.toNat_sub]
  change (2 ^ 32 - 1 + r.toNat) % 2 ^ 32 + 1 = r.toNat
  omega

/-- A byte taken brings eight bits into hand (R288). -/
theorem State.DecoderBudget.of_byte {w : Word} {c : BitVec 32} {p : Pos} {f : Byte → Pos} {b : Byte} {rest : List Byte}
    (h : s.DecoderBudget) (hseq : s.atPos w c p) (hw : decodeCmd w = .decode) (htakes : DecodeTakes p f)
    (hrem : s.inRemain ≠ 0) : (s.took rest w c (f b)).DecoderBudget := by
  intro q hq _
  cases hq
  have hsub := toNat_sub_one_add_one hrem
  have hpos := h _ hseq hw
  cases htakes with
  | header len =>
    obtain rfl : s.inRemain = len := hpos
    exact ⟨hrem, rfl⟩
  | walk hmore hnb =>
    obtain ⟨hle, -, hbits⟩ := hpos
    refine ⟨hle, le_rfl, ?_⟩
    dsimp only [State.took]
    omega
  | padding k z hnb =>
    obtain ⟨-, hbits⟩ := hpos
    refine ⟨le_rfl, ?_⟩
    dsimp only [State.took]
    omega

theorem State.DecoderBudget.of_decodeEffect (h : s.DecoderBudget)
    (hruns : ∀ q, s.seq = some q → decodeCmd q.word = .decode) (heffect : DecodeEffect s t) : t.DecoderBudget := by
  cases heffect with
  | wait => exact h
  | fail | trunc | badPad | done => exact nofun
  | start =>
    intro q hq _
    cases hq
    rfl
  | byte hseq htakes hrem => exact h.of_byte hseq (hruns _ hseq) htakes hrem
  | pad hseq hle =>
    intro q hq _
    cases hq
    obtain ⟨hlen, hrem⟩ := h _ hseq (hruns _ hseq)
    have hsub := toNat_sub_one_add_one hlen
    rw [← hrem] at hsub
    refine ⟨Nat.zero_le _, Nat.zero_le _, ?_⟩
    dsimp only [State.movedTo, decStartLocals]
    omega
  | emit hseq hmore hnb | bit hseq hmore hnb =>
    intro q hq _
    cases hq
    obtain ⟨hle, hnb8, hbits⟩ := h _ hseq (hruns _ hseq)
    refine ⟨hmore, (Nat.sub_le _ _).trans hnb8, ?_⟩
    dsimp only [State.movedTo]
    omega
  | walked hseq hend =>
    intro q hq _
    cases hq
    obtain ⟨hle, hnb8, hbits⟩ := h _ hseq (hruns _ hseq)
    refine ⟨hnb8, ?_⟩
    dsimp only [State.movedTo]
    omega
  | padBit hseq hnb =>
    intro q hq _
    cases hq
    obtain ⟨hnb8, hbits⟩ := h _ hseq (hruns _ hseq)
    refine ⟨(Nat.sub_le _ _).trans hnb8, ?_⟩
    dsimp only [State.movedTo]
    omega

theorem State.DecoderBudget.of_cmd {q : Seq} (h : s.DecoderBudget) (hseq : s.seq = some q)
    (hexec : exec (decodeCmd q.word) s = .next t) : t.DecoderBudget := by
  by_cases hdecode : decodeCmd q.word = .decode
  · refine h.of_decodeEffect (fun r hr => ?_) (.of_exec (hdecode ▸ hexec))
    rw [Option.some.inj (hr.symm.trans hseq), hdecode]
  · exact fun q' hq' hw => absurd hw (decodeCmd_ne_of_exec hseq hdecode hexec hq')

/-- Settles O13: the steps of DECODE keep its budget, and no other step touches it. -/
theorem stepKeepsDecoderBudget : Obligations.StepKeepsDecoderBudget := by
  refine step_keeps_of_stream (fun t hnone q hq => absurd (hnone.symm.trans hq) nofun) (fun t w hacc q hq _ => ?start)
    (fun s t hs hseq _ _ hrem q hq hw => ?same) fun q s t hseq hs hexec => hs.of_cmd hseq hexec
  case start =>
    obtain rfl := Option.some.inj (hacc.symm.trans hq)
    trivial
  case same =>
    rw [hrem]
    exact hs q (hseq ▸ hq) hw

/-- Past the padding header, a byte to take is in the budget (R288). -/
theorem State.DecoderBudget.inRemain_ne_zero {w : Word} {c : BitVec 32} {p : Pos} {f : Byte → Pos} (h : s.DecoderBudget)
    (hseq : s.atPos w c p) (hw : decodeCmd w = .decode) (htakes : DecodeTakes p f)
    (hpast : (∃ l, p = .decWalk l) ∨ ∃ l k z, p = .decPad l k z) : s.inRemain ≠ 0 := by
  intro hrem
  have hzero : s.inRemain.toNat = 0 := congrArg BitVec.toNat hrem
  have hpos := h _ hseq hw
  cases htakes with
  | header len => simp at hpast
  | walk hmore hnb =>
    obtain ⟨-, -, hbits⟩ := hpos
    omega
  | padding k z hnb =>
    obtain ⟨-, hbits⟩ := hpos
    omega

/-- Settles O59: TRUNC would need a byte outside the budget, and at the end no bit, and so no byte, is left. -/
theorem decodeTakesExactlyItsStream : Obligations.DecodeTakesExactlyItsStream := by
  intro s t q h hq hw herr hexec
  refine ⟨fun hpast herr' => ?trunc, fun hend herr' => ?done⟩
  case trunc =>
    cases DecodeEffect.of_exec hexec with
    | fail info he => exact he
    | trunc hseq htakes hrem =>
      obtain rfl := Option.some.inj (hseq.symm.trans hq)
      exact absurd hrem (h.inRemain_ne_zero hseq hw htakes hpast)
    | badPad => exact (by decide : (0x0C : BitVec 8) ≠ 0x05)
    | _ => exact absurd (herr.symm.trans herr') (by decide)
  case done =>
    cases DecodeEffect.of_exec hexec with
    | wait => exact absurd (hend.symm.trans hq) nofun
    | fail | trunc | badPad => cases herr'
    | done hseq =>
      obtain rfl := Option.some.inj (hseq.symm.trans hq)
      obtain ⟨-, hbits⟩ := h _ hseq hw
      exact BitVec.eq_of_toNat_eq (by change s.inRemain.toNat = 0; omega)
    | _ => cases hend

/-! ### After reset -/

/-- Settles O9: after reset the FIFOs are empty, the error registers and valid bits clear, and nothing runs. -/
theorem resetMeetsTheInvariants : Obligations.ResetMeetsTheInvariants := by
  have hreset (p : Params) (hin : 1 ≤ p.ififoDepth) (hout : 1 ≤ p.ofifoDepth) :
      (State.resetWith p).Inv ∧ (State.resetWith p).Coherent ∧ (State.resetWith p).EncoderAligned ∧
        (State.resetWith p).DecoderBudget :=
    ⟨.of_idle ⟨hin, hout⟩ rfl rfl rfl rfl rfl rfl, .of_invalid rfl rfl, nofun, nofun⟩
  exact ⟨hreset Params.default (by decide) (by decide), hreset⟩

end Sys2Proof.Machine
end
